-- ==== Sys2Proof/Word.lean ====
section
/-! DEFINITION. The word types of JBC-CC: the 32-bit event word (spec/30_encoding.md R82) and the 16-bit host register
(spec/20_memory.md R60). Bit 0 is the least significant bit of any word (spec/00_scope.md R11). -/

namespace Sys2Proof

/-- One event word: the record of one input event with the levels sampled with it (spec/30_encoding.md R82). -/
abbrev Word := BitVec 32

/-- One host register as a bus access carries it (spec/20_memory.md R60, R64). -/
abbrev Half := BitVec 16

end Sys2Proof
end

