-- ==== Sys2Proof/Config.lean ====
section
/-! DEFINITION. What is fixed before JBC-CC runs: the constants of spec/00_scope.md R7, the configuration record `CFG`
of R8 and R9, when a configuration is admissible (R10), the reference configuration `REFCFG` (R10), and the two
constants without a body that stand for what the implementation fixes and the spec leaves open. -/

namespace Sys2Proof

/-! ### The fixed constants of R7

One table, so that an audit of the literals (spec/93_implementation_defined.md U12) changes one place. -/

namespace Const

/-- `N_SLOTS`: slots of one sequencer cycle (R7). -/
abbrev nSlots : Nat := 11
/-- `ADC_MAX`: the largest raw sample (R7). -/
abbrev adcMax : Nat := 4095
/-- `TIP_THRESHOLD`: a sample strictly above it means the tip is removed (R7). -/
abbrev tipThreshold : Nat := 3500
/-- `ALPHA`: the weight of the new temperature in the filter (R7). -/
abbrev alpha : Rat := 3 / 5
/-- `ROUND_STEP`: the filtered temperature is a multiple of it (R7). -/
abbrev roundStep : Int := 5
/-- Numerator of `RUNAWAY_FACTOR` = 11/10 (R7). -/
abbrev runawayNum : Int := 11
/-- Denominator of `RUNAWAY_FACTOR` = 11/10 (R7). -/
abbrev runawayDen : Int := 10
/-- `WARMUP_N`: completed acquisitions during which the output stays disabled (R7). -/
abbrev warmupN : Nat := 3
/-- `INT_CLAMP`: the integral is kept in [-100, 100] (R7). -/
abbrev intClamp : Rat := 100
/-- `DUTY_MAX` (R7). -/
abbrev dutyMax : Nat := 100
/-- `DUTY_STEP` (R7). -/
abbrev dutyStep : Nat := 10
/-- `OUTFILT_W`: the weight of the new and of the previous duty in the output filter (R7). -/
abbrev outFiltW : Rat := 1 / 2
/-- `HYST_BAND`: the half-band of the hysteresis policy in °C (R7). -/
abbrev hystBand : Int := 5
/-- `SLEEP_SETPOINT`: the cap of the effective setpoint in holder mode (R7). -/
abbrev sleepSetpoint : Nat := 150
/-- `SETPOINT_MAX`: the top of the setpoint range in °C (R7). -/
abbrev setpointMax : Nat := 450
/-- `ENC_SCALE`: encoder counts per °C (R7). -/
abbrev encScale : Nat := 10
/-- `KP_DEFAULT` in hundredths (R7). -/
abbrev kpDefault : Half := 170
/-- `KI_DEFAULT` in hundredths (R7). -/
abbrev kiDefault : Half := 15
/-- `KD_DEFAULT` in hundredths (R7). -/
abbrev kdDefault : Half := 50

end Const

/-! ### The configuration record -/

/-- `POLICY` of R9: the control-law policy, fixed for the life of a configuration (spec/42_control_law.md R149). -/
inductive Policy
  | pid
  | hyst
deriving DecidableEq, Repr

/-- `ZC_MEAS_EDGE` of R9: which electrical edge of the zero-crossing input is the measurement edge. -/
inductive Edge
  | rising
  | falling
deriving DecidableEq, Repr

/-- `NUM.rnd` of R9 as plain data: the identity (the default), or the implementation's own rounding, of which nothing is
known but that it is a total function of its argument (R14). -/
inductive Rounding
  | identity
  | implementation
deriving DecidableEq, Repr

/-- FREE VALUE. The rounding of an implementation that does not compute exactly: a total function, and nothing else is
known of it (R14; assumption 4). No body: no proof can learn its values. -/
opaque implementationRounding : Rat → Rat

/-- The function a `Rounding` stands for (R14). -/
def Rounding.apply : Rounding → Rat → Rat
  | .identity, x => x
  | .implementation, x => implementationRounding x

/-- The configuration record `CFG`: the calibration parameters of R8 and the open parameters of R9. A field has a
default here exactly where R8 or R9 gives one. -/
structure Cfg where
  /-- `TS`, the PID sample period. -/
  ts : Rat
  /-- `BIAS`, the constant PID feed-forward offset. -/
  bias : Rat
  /-- `POLICY`. -/
  policy : Policy := .pid
  /-- `NUM.rnd`. -/
  rounding : Rounding := .identity
  /-- `V_MULT`. -/
  vMult : Rat := 3662 / 1000
  /-- `SEEBECK`. -/
  seebeck : Rat := 262 / 10
  /-- `T_AMBIENT`, in °C. -/
  tAmbient : Rat := 20
  /-- `BLINK_PERIOD_MS`, in ticks. -/
  blinkPeriodMs : Nat
  /-- `BLINK_HOLD_PERIODS`. -/
  blinkHoldPeriods : Nat
  /-- `ZC_MEAS_EDGE`: it binds the port `zc` to the two edge events; no operation reads it. -/
  zcMeasEdge : Edge
  /-- `ADC_TIMEOUT`: timing only; no operation reads it. -/
  adcTimeout : Rat
deriving DecidableEq, Repr

/-- `NUM.rnd` of the configuration as a function (R14). -/
def Cfg.rnd (c : Cfg) (x : Rat) : Rat := c.rounding.apply x

/-- The exact conversion of a sample, before `NUM.rnd`, as R10 writes it to bound the temperatures. -/
def Cfg.exactTemperature (c : Cfg) (sample : Nat) : Rat := sample * c.vMult / c.seebeck + c.tAmbient

/-- A configuration is admissible when every constraint of R8 and R9 holds and no accepted sample converts to a
temperature outside the 16-bit range (R10). -/
structure Cfg.Admissible (c : Cfg) : Prop where
  ts_pos : 0 < c.ts
  seebeck_ne : c.seebeck ≠ 0
  blinkPeriod_pos : 1 ≤ c.blinkPeriodMs
  blinkPeriod_le : c.blinkPeriodMs ≤ 65535
  blinkHold_pos : 1 ≤ c.blinkHoldPeriods
  blinkHold_le : c.blinkHoldPeriods ≤ 255
  adcTimeout_pos : 0 < c.adcTimeout
  temperature_lt : ∀ sample : Nat, sample ≤ Const.tipThreshold → |c.exactTemperature sample| < 32768

/-- The same as a check that evaluates at once: the conversion is linear, so its bound needs looking at only for the
two end samples 0 and 3500. -/
def Cfg.check (c : Cfg) : Bool :=
  decide (0 < c.ts) && decide (c.seebeck ≠ 0)
    && decide (1 ≤ c.blinkPeriodMs) && decide (c.blinkPeriodMs ≤ 65535)
    && decide (1 ≤ c.blinkHoldPeriods) && decide (c.blinkHoldPeriods ≤ 255)
    && decide (0 < c.adcTimeout)
    && decide (|c.exactTemperature 0| < 32768) && decide (|c.exactTemperature Const.tipThreshold| < 32768)

/-- The check decides admissibility: a linear function that is inside the range at both ends is inside it between. -/
theorem Cfg.check_iff (c : Cfg) : c.check = true ↔ c.Admissible := by
  constructor
  · intro h
    simp only [Cfg.check, Bool.and_eq_true, decide_eq_true_eq] at h
    obtain ⟨⟨⟨⟨⟨⟨⟨⟨h1, h2⟩, h3⟩, h4⟩, h5⟩, h6⟩, h7⟩, h8⟩, h9⟩ := h
    refine ⟨h1, h2, h3, h4, h5, h6, h7, fun sample hs => ?_⟩
    have hs' : (sample : Rat) ≤ 3500 := by exact_mod_cast hs
    have hs0 : (0 : Rat) ≤ sample := by exact_mod_cast Nat.zero_le sample
    have lin : ∀ n : Rat, n * c.vMult / c.seebeck = n * (c.vMult / c.seebeck) := fun n => mul_div_assoc _ _ _
    simp only [Cfg.exactTemperature, lin, abs_lt, Nat.cast_ofNat, Nat.cast_zero, zero_mul, zero_div, zero_add]
      at h8 h9 ⊢
    rcases le_total 0 (c.vMult / c.seebeck) with hk | hk
    · constructor <;> nlinarith
    · constructor <;> nlinarith
  · intro h
    simp [Cfg.check, h.ts_pos, h.seebeck_ne, h.blinkPeriod_pos, h.blinkPeriod_le, h.blinkHold_pos, h.blinkHold_le,
      h.adcTimeout_pos, h.temperature_lt 0 (Nat.zero_le _), h.temperature_lt Const.tipThreshold le_rfl]

/-- `REFCFG` of R10, the configuration of every vector of spec/95_test_vectors.md. R10 does not list `ZC_MEAS_EDGE` and
`ADC_TIMEOUT`; no rule depends on either. It is no claim about the original software. -/
def refCfg : Cfg :=
  { ts := 1, bias := 0, blinkPeriodMs := 500, blinkHoldPeriods := 4, zcMeasEdge := .rising, adcTimeout := 1 }

/-- `REFCFG` is admissible. -/
theorem refCfg_admissible : refCfg.Admissible := (Cfg.check_iff refCfg).1 (by decide +kernel)

/-- A configuration with the proof that it is admissible: JBC-CC runs under no other (R10, R268; an inadmissible one is
refused by `Sys2Proof.Machine.configure`). The default values only show Lean that the type is inhabited. -/
structure Config where
  cfg : Cfg := refCfg
  admissible : cfg.Admissible := by exact refCfg_admissible
deriving DecidableEq, Repr, Inhabited

/-- `REFCFG` as an admissible configuration. -/
def refConfig : Config := ⟨refCfg, refCfg_admissible⟩

/-- FREE VALUE. The configuration of the machine at hand: some admissible one, and nothing else is known of it (R8, R9;
assumption 3). No body: no proof can learn its fields. -/
opaque implementationConfig : Config

/-- Loading a configuration: an inadmissible one is turned away (R10, U13). -/
def Cfg.accept (c : Cfg) : Option Config :=
  if h : c.check = true then some ⟨c, (Cfg.check_iff c).1 h⟩ else none

end Sys2Proof
end

