-- ==== Sys2Proof/Syntax.lean ====
section
/-! DEFINITION. The operations of JBC-CC (spec/00_scope.md R6: an instruction is one atomic reaction to one input
event): one constructor for each row of spec/opcode_table.json, operands in the order of spec/30_encoding.md R86 to
R90, and the sixteen names of the host register map (R95). -/

namespace Sys2Proof

/-- The sixteen host registers of spec/30_encoding.md R95, in the order of their numbers. -/
inductive HostReg
  | kp100
  | ki100
  | kd100
  | slot
  | status
  | outDuty
  | outDutyF
  | tFilt
  | setpoint
  | backupSp
  | dispSp
  | dispTemp
  | dispDuty
  | holdPer
  | msclkLo
  | msclkHi
deriving DecidableEq, Repr

/-- The seven operations. Numbers are the mathematical ones of R12; what an encoding admits of them is
`Instr.WellFormed`. -/
inductive Instr
  /-- `ZCM sample, adc_ok, disc, holder`: the measurement edge (R86, R111). -/
  | zcm (sample : Nat) (adcOk disc holder : Bool)
  /-- `ZCD`: the drive edge (R87, R112). -/
  | zcd
  /-- `TICK`: the 1 ms tick (R88, R211). -/
  | tick
  /-- `RFR enc, holder, disc`: one run of the mode state machine (R89, R180). -/
  | rfr (enc : Int) (holder disc : Bool)
  /-- `WRG reg, data`: host write (R90, R213). -/
  | wrg (reg : HostReg) (data : Half)
  /-- `RDS reg`: host read (R90, R215). -/
  | rds (reg : HostReg)
  /-- `RST`: reset (R90, R260). -/
  | rst
deriving DecidableEq, Repr

end Sys2Proof
end

