-- ==== Sys2Proof/WellFormed.lean ====
section
/-! DEFINITION. Which operations an event word can carry (spec/30_encoding.md R84): a sample in 0..4095 and an encoder
value in the signed 16-bit range. Every other operand is of a type that has exactly the values of its field. -/

namespace Sys2Proof

/-- The operand ranges of R84. -/
def Instr.wellFormed : Instr → Bool
  | .zcm sample _ _ _ => decide (sample ≤ Const.adcMax)
  | .zcd => true
  | .tick => true
  | .rfr enc _ _ => decide (-32768 ≤ enc) && decide (enc ≤ 32767)
  | .wrg _ _ => true
  | .rds _ => true
  | .rst => true

/-- The operands fit their fields (R84). -/
abbrev Instr.WellFormed (i : Instr) : Prop := i.wellFormed = true

end Sys2Proof
end

