-- ==== Sys2Proof/Decode.lean ====
section
/-! DEFINITION. Event words (spec/30_encoding.md sections 1 and 2): reading the fields of a word, the total decoder of
R85 that refuses a reserved word by name, the encoder written from the same table (R83), and the match and mask of
each row. -/

namespace Sys2Proof

/-- Why a word is reserved (R85): its operation code belongs to no row, or it has a 1 in a must-be-zero bit of its
row. -/
inductive DecodeError
  | reservedOp (op : BitVec 4)
  | mustBeZero (op : BitVec 4)
deriving DecidableEq, Repr

/-- `w[lo+n-1 : lo]` of R11. -/
def field (w : Word) (lo n : Nat) : BitVec n := w.extractLsb' lo n

/-- `sext16` of R13. -/
def sext16 (v : Half) : Int := if v.toNat < 32768 then v.toNat else (v.toNat : Int) - 65536

/-- The register a 4-bit number names (R95). -/
def HostReg.ofNumber (n : BitVec 4) : HostReg :=
  match n.toNat with
  | 0 => .kp100
  | 1 => .ki100
  | 2 => .kd100
  | 3 => .slot
  | 4 => .status
  | 5 => .outDuty
  | 6 => .outDutyF
  | 7 => .tFilt
  | 8 => .setpoint
  | 9 => .backupSp
  | 10 => .dispSp
  | 11 => .dispTemp
  | 12 => .dispDuty
  | 13 => .holdPer
  | 14 => .msclkLo
  | _ => .msclkHi -- four bits leave 15 only

/-- The number of a register (R95). -/
def HostReg.number : HostReg → BitVec 4
  | .kp100 => 0
  | .ki100 => 1
  | .kd100 => 2
  | .slot => 3
  | .status => 4
  | .outDuty => 5
  | .outDutyF => 6
  | .tFilt => 7
  | .setpoint => 8
  | .backupSp => 9
  | .dispSp => 10
  | .dispTemp => 11
  | .dispDuty => 12
  | .holdPer => 13
  | .msclkLo => 14
  | .msclkHi => 15

/-- A word whose must-be-zero bits are clear is the operation; another is reserved (R85). -/
def ifZero (op : BitVec 4) (zero : Bool) (i : Instr) : Except DecodeError Instr :=
  if zero then .ok i else .error (.mustBeZero op)

/-- Decoding is total: a word is one operation of the table of R83, with the operands of R84, or it is reserved
(R85). -/
def decode (w : Word) : Except DecodeError Instr :=
  let op := field w 28 4
  match op.toNat with
  | 1 => ifZero op (field w 15 13 = 0)
      (.zcm (field w 0 12).toNat (w.getLsbD 12) (w.getLsbD 13) (w.getLsbD 14))
  | 2 => ifZero op (field w 0 28 = 0) .zcd
  | 3 => ifZero op (field w 0 28 = 0) .tick
  | 4 => ifZero op (field w 18 10 = 0) (.rfr (sext16 (field w 0 16)) (w.getLsbD 16) (w.getLsbD 17))
  | 5 => ifZero op (field w 20 8 = 0) (.wrg (HostReg.ofNumber (field w 16 4)) (field w 0 16))
  | 6 => ifZero op (field w 20 8 = 0 ∧ field w 0 16 = 0) (.rds (HostReg.ofNumber (field w 16 4)))
  | 7 => ifZero op (field w 0 28 = 0) .rst
  | _ => .error (.reservedOp op)

/-- A field put at its place: `v` as `w[lo+n-1 : lo]` of a word that is 0 elsewhere (R11). -/
def put {n : Nat} (lo : Nat) (v : BitVec n) : Word := v.setWidth 32 <<< lo

/-- The event word of an operation: the operation code and the operands at the places of R83, every other bit 0. -/
def encode : Instr → Word
  | .zcm sample adcOk disc holder =>
      put 28 0x1#4 ||| put 14 (BitVec.ofBool holder) ||| put 13 (BitVec.ofBool disc) ||| put 12 (BitVec.ofBool adcOk)
        ||| put 0 (BitVec.ofNat 12 sample)
  | .zcd => put 28 0x2#4
  | .tick => put 28 0x3#4
  | .rfr enc holder disc =>
      put 28 0x4#4 ||| put 17 (BitVec.ofBool disc) ||| put 16 (BitVec.ofBool holder) ||| put 0 (BitVec.ofInt 16 enc)
  | .wrg reg data => put 28 0x5#4 ||| put 16 reg.number ||| put 0 data
  | .rds reg => put 28 0x6#4 ||| put 16 reg.number
  | .rst => put 28 0x7#4

/-- The mask of an operation's row: the bits that are the same in each of its words (R83). -/
def rowMask : Instr → Word
  | .zcm _ _ _ _ => 0xFFFF8000
  | .zcd => 0xFFFFFFFF
  | .tick => 0xFFFFFFFF
  | .rfr _ _ _ => 0xFFFC0000
  | .wrg _ _ => 0xFFF00000
  | .rds _ => 0xFFF0FFFF
  | .rst => 0xFFFFFFFF

/-- The match of an operation's row: the value of the masked bits (R83). -/
def rowMatch : Instr → Word
  | .zcm _ _ _ _ => 0x10000000
  | .zcd => 0x20000000
  | .tick => 0x30000000
  | .rfr _ _ _ => 0x40000000
  | .wrg _ _ => 0x50000000
  | .rds _ => 0x60000000
  | .rst => 0x70000000

/-- The decoder on a word given as the opcode table numbers its bits. An event word is one 32-bit number and has no
byte order (R82, spec/20_memory.md R62), so the word is handed over as it is; the bits above `nbits` are zero. -/
def decodeTableWord (nbits w : Nat) : Option Instr :=
  match decode (BitVec.ofNat 32 (w % 2 ^ nbits)) with
  | .ok i => some i
  | .error _ => none

end Sys2Proof
end

