-- ==== Sys2Proof/Machine/State.lean ====
section
/-! DEFINITION. The state of JBC-CC as plain data: every element of spec/10_state.md, and three fields of the model's
own (`out`, `trace`, `config`, marked as such); the named conditions an evaluation can meet (spec/60_exceptions.md);
the reasons a step can stop; the state after reset (R56). -/

namespace Sys2Proof.Machine

/-- The four states of the mode state machine, in the order of their codes (spec/10_state.md R46). -/
inductive Mode
  | active
  | holderSleep
  | faultRemoved
  | faultDisconnected
deriving DecidableEq, Repr

/-- The outputs of one operation besides the heater pin (spec/30_encoding.md R104): the ADC start pulse, the encoder
write-back (`some v`: `enc_wr` is pulsed with `enc_wr_val` = v) and the value a host read returns. -/
structure Outputs where
  adcStart : Bool := false
  encWr : Option Half := none
  hRdata : Option Half := none
deriving DecidableEq, Repr

/-- The conditions an evaluation can meet, with the names of spec/60_exceptions.md R231 to R234. Each is absorbed into
a flag; none stops an operation (R230). -/
inductive Condition
  /-- No sample arrived within the bounded wait (R232). -/
  | adcTimeout
  /-- The sample is above the threshold (R231). -/
  | sensorRange
  /-- The rounded filtered temperature exceeds 1.1 × setpoint (R233). -/
  | runaway
  /-- The iron is disconnected (R234). -/
  | disconnected
deriving DecidableEq, Repr

/-- The state of JBC-CC. The docstring of a field names its rule in spec/10_state.md. -/
structure State where
  /-- R22: which of the eleven slots the sequencer is in. -/
  slot : Fin 11
  /-- R23: the level of the output port `heater`. -/
  pin : Bool
  /-- R24: the duty that drives the pin, in percent. -/
  outputDuty : Nat
  /-- R25: the duty after the output filter, in percent. -/
  outputDutyFiltered : Nat
  /-- R26: whether the pin may be driven in this cycle. -/
  outputEnabled : Bool
  /-- R27: completed acquisitions since reset, saturating at 3. -/
  warmup : Fin 4
  /-- R28: the memory of the hysteresis policy. -/
  hystOn : Bool
  /-- R30: the unfiltered temperature of the last completed acquisition. -/
  measuredTemperature : Rat
  /-- R31: the filtered and rounded temperature. -/
  filteredTemperature : Int
  /-- R32: `error[0]`, the error of the last PID evaluation. -/
  error0 : Rat
  /-- R32: `error[1]`, the error of the PID evaluation before it. -/
  error1 : Rat
  /-- R32: `error[2]`, reserved: no operation but reset writes it, none reads it. -/
  error2 : Rat
  /-- R33: the clamped integral. -/
  integral : Rat
  /-- R34: the derivative of the last PID evaluation. -/
  derivative : Rat
  /-- R40. -/
  tipRemoved : Bool
  /-- R41. -/
  ironDisconnected : Bool
  /-- R42. -/
  ironInHolder : Bool
  /-- R43. -/
  runaway : Bool
  /-- R45: toggled at every blink-period boundary. -/
  blinkPhase : Bool
  /-- R46. -/
  modeState : Mode
  /-- R47: the effective setpoint, °C. -/
  setpoint : Nat
  /-- R48: the raw setpoint of the last refresh, °C. -/
  backupSetpoint : Nat
  /-- R49: blink-period boundaries still to pass before the raw setpoint stops overriding the holder display. -/
  holdPeriods : Nat
  /-- R50. -/
  dispSetpoint : Nat
  /-- R50. -/
  dispTemp : Int
  /-- R50. -/
  dispDuty : Nat
  /-- R51: the number of ticks since reset modulo 2^32. -/
  msClock : BitVec 32
  /-- R52: ticks since the last blink-period boundary. -/
  blinkMs : Nat
  /-- R53: the proportional gain in hundredths. -/
  kp100 : Half
  /-- R53: the integral gain in hundredths. -/
  ki100 : Half
  /-- R53: the derivative gain in hundredths. -/
  kd100 : Half
  /-- The model's own field: the outputs of the operation that came last (spec/30_encoding.md R104 returns them with
  the new state; the host's step has no other place for them; assumption 2). -/
  out : Outputs
  /-- The model's own field: the event words still to come, the next one first (spec/00_scope.md R6, R18; the
  environment's, not JBC-CC's; assumption 1). -/
  trace : List Word
  /-- The model's own field: the configuration the step runs under (R58: a parameter of the step, no operation changes
  it; the host's step has no other argument to carry it; assumption 3). -/
  config : Config
deriving DecidableEq, Repr

/-- The configuration record the operations read. -/
abbrev State.cfg (s : State) : Cfg := s.config.cfg

/-- The reasons JBC-CC stops with a fault: there is none. Every condition is absorbed into a flag and every operation
completes (spec/60_exceptions.md R230, spec/20_memory.md R73), so this type has no constructor. Safe: with none, no
step of the model can stop where the hardware goes on. -/
inductive Fault
deriving DecidableEq, Repr

/-- The reasons the model refuses a step. -/
inductive Refusal
  /-- Raised by `exec` for an operation that has no meaning yet. Safe: nothing is claimed of it. No arm raises it. -/
  | notModelled (mnemonic : String)
  /-- Raised by `step` on an event word that matches no row: the trace is ill-formed and there is no step
  (spec/30_encoding.md R85). Safe: no port activity produces such a word. -/
  | reservedWord (word : Word) (why : DecodeError)
  /-- Raised by `configure` on a configuration that is not admissible (spec/00_scope.md R10). Safe: the spec gives
  JBC-CC no behaviour under one. -/
  | inadmissibleConfig
deriving DecidableEq, Repr

/-- The state right after reset (R56; the last three fields are the model's own). -/
def State.reset : State where
  slot := 0
  pin := false
  outputDuty := 0
  outputDutyFiltered := 0
  outputEnabled := false
  warmup := 0
  hystOn := false
  measuredTemperature := 0
  filteredTemperature := 0
  error0 := 0
  error1 := 0
  error2 := 0
  integral := 0
  derivative := 0
  tipRemoved := false
  ironDisconnected := false
  ironInHolder := false
  runaway := false
  blinkPhase := false
  modeState := .active
  setpoint := 0
  backupSetpoint := 0
  holdPeriods := 0
  dispSetpoint := 0
  dispTemp := 0
  dispDuty := 0
  msClock := 0
  blinkMs := 0
  kp100 := Const.kpDefault
  ki100 := Const.kiDefault
  kd100 := Const.kdDefault
  out := {}
  trace := []
  config := implementationConfig

end Sys2Proof.Machine
end

