-- ==== Sys2Proof/Machine/Operands.lean ====
section
/-! DEFINITION. The pure functions of spec/00_scope.md R13 and the operand forms: the sample as a temperature
(spec/41_acquisition.md R133), the encoder value as a setpoint (spec/43_encoder_mode.md R182 to R186), a gain register
as a gain (spec/30_encoding.md R99). -/

namespace Sys2Proof.Machine

/-- `clamp(x, lo, hi)` of R13, on rationals. -/
def clamp (x lo hi : Rat) : Rat := if x < lo then lo else if hi < x then hi else x

/-- `round5(x)` of R13: the nearest multiple of 5, a tie going up. -/
def round5 (x : Rat) : Int := Const.roundStep * (x / Const.roundStep + 1 / 2).floor

/-- `floor10(x)` of R13. -/
def floor10 (x : Rat) : Int := Const.dutyStep * (x / Const.dutyStep).floor

/-- The conversion of a raw sample to °C, rounded by `NUM.rnd` (spec/41_acquisition.md R133). -/
def sampleTemperature (c : Cfg) (sample : Nat) : Rat := c.rnd (sample * c.vMult / c.seebeck + c.tAmbient)

/-- The exponential filter before rounding to 5 °C, rounded by `NUM.rnd` (spec/41_acquisition.md R134). -/
def filterValue (c : Cfg) (temperature : Rat) (previous : Int) : Rat :=
  c.rnd (Const.alpha * temperature + (1 - Const.alpha) * previous)

/-- A gain register holds the gain times 100 (spec/30_encoding.md R99, spec/42_control_law.md R151). -/
def gain (hundredths : Half) : Rat := hundredths.toNat / 100

/-- The counter value saturated to the ends of the setpoint range (spec/43_encoder_mode.md R183). -/
def saturateEncoder (enc : Int) : Int := max 0 (min enc (Const.setpointMax * Const.encScale : Nat))

/-- The write-back port: the saturated value when it differs from the counter's (spec/43_encoder_mode.md R183). -/
def encoderWriteBack (enc : Int) : Option Half :=
  if saturateEncoder enc ≠ enc then some (BitVec.ofInt 16 (saturateEncoder enc)) else none

/-- The raw setpoint in °C, the fraction dropped (spec/43_encoder_mode.md R184). -/
def rawSetpoint (enc : Int) : Nat := (saturateEncoder enc).toNat / Const.encScale

/-- The setpoint capped for the holder (spec/43_encoder_mode.md R186). -/
def reducedSetpoint (raw : Nat) : Nat := min raw Const.sleepSetpoint

/-- A control value clamped to [0, 100] and floored to a multiple of 10 (spec/42_control_law.md R156). -/
def quantiseDuty (u : Rat) : Nat := (floor10 (clamp u 0 Const.dutyMax)).toNat

/-- One step of the output filter (spec/42_control_law.md R160). -/
def filterDuty (duty previous : Nat) : Nat :=
  (floor10 (Const.outFiltW * duty + Const.outFiltW * previous)).toNat

end Sys2Proof.Machine
end

