-- ==== Sys2Proof/Machine/Flags.lean ====
section
/-! DEFINITION. Every flag computation: the conditions of an evaluation (spec/41_acquisition.md R131, R135, R136), the
pin rule (spec/40_sequencer.md R113), the mode (spec/43_encoder_mode.md R190), the changed and recently-changed tests,
and the `STATUS` word (spec/30_encoding.md R96, R98). -/

namespace Sys2Proof.Machine

/-- The failure test of an acquisition: a missing sample is seen before its value is looked at
(spec/41_acquisition.md R131, spec/60_exceptions.md R238). -/
def acquisitionFailure (sample : Nat) (adcOk : Bool) : Option Condition :=
  if adcOk = false then some .adcTimeout
  else if Const.tipThreshold < sample then some .sensorRange
  else none

/-- The runaway test, strict and in integers (spec/41_acquisition.md R135). -/
def runawayTest (filtered : Int) (setpoint : Nat) : Bool :=
  decide (Const.runawayDen * filtered > Const.runawayNum * setpoint)

/-- The warm-up counter after a completed acquisition (spec/41_acquisition.md R136). -/
def nextWarmup (w : Fin 4) : Fin 4 := if w.val < Const.warmupN then w + 1 else w

/-- Whether an acquisition that finds the counter at `w` is warm (spec/41_acquisition.md R136). -/
def isWarm (w : Fin 4) : Bool := decide (w.val = Const.warmupN)

/-- The pin rule `DRIVE()` (spec/40_sequencer.md R113). -/
def driveLevel (enabled : Bool) (slot : Fin 11) (duty : Nat) : Bool :=
  enabled && decide (1 ≤ slot.val) && decide (slot.val ≤ duty / Const.dutyStep)

/-- The thresholds of the hysteresis policy, both inclusive (spec/42_control_law.md R158). -/
def nextHystOn (filtered : Int) (setpoint : Nat) (held : Bool) : Bool :=
  if filtered ≤ setpoint - Const.hystBand then true
  else if filtered ≥ setpoint + Const.hystBand then false
  else held

/-- The mode as a function of its three inputs in their priority (spec/43_encoder_mode.md R190). -/
def nextMode (tipRemoved disc holder : Bool) : Mode :=
  if tipRemoved then .faultRemoved
  else if disc then .faultDisconnected
  else if holder then .holderSleep
  else .active

/-- The two fault states (spec/30_encoding.md R98). -/
def Mode.isFault : Mode → Bool
  | .active => false
  | .holderSleep => false
  | .faultRemoved => true
  | .faultDisconnected => true

/-- The code of a mode (spec/30_encoding.md R98). -/
def Mode.code : Mode → BitVec 2
  | .active => 0
  | .holderSleep => 1
  | .faultRemoved => 2
  | .faultDisconnected => 3

/-- `recentlyChanged` is not stored: it is the predicate `holdPeriods > 0` (spec/10_state.md R44). -/
def recentlyChanged (holdPeriods : Nat) : Bool := decide (0 < holdPeriods)

/-- The `STATUS` register, most significant field first (spec/30_encoding.md R96). -/
def statusWord (s : State) : Half :=
  0#3 ++ BitVec.ofBool (recentlyChanged s.holdPeriods) ++ s.modeState.code ++ BitVec.ofNat 2 s.warmup.val
    ++ BitVec.ofBool s.blinkPhase ++ BitVec.ofBool s.hystOn ++ BitVec.ofBool s.runaway
    ++ BitVec.ofBool s.ironInHolder ++ BitVec.ofBool s.ironDisconnected ++ BitVec.ofBool s.tipRemoved
    ++ BitVec.ofBool s.outputEnabled ++ BitVec.ofBool s.pin

/-- The flag that is the whole record of a condition (spec/60_exceptions.md R231 to R234). -/
def Condition.flag : Condition → State → Bool
  | .adcTimeout, s => s.tipRemoved
  | .sensorRange, s => s.tipRemoved
  | .runaway, s => s.runaway
  | .disconnected, s => s.ironDisconnected

/-- The code of a condition: the number of its `STATUS` bit (spec/60_exceptions.md R230 to R234). -/
def Condition.statusBit : Condition → Nat
  | .adcTimeout => 2
  | .sensorRange => 2
  | .runaway => 5
  | .disconnected => 3

end Sys2Proof.Machine
end

