-- ==== Sys2Proof/Machine/Ops.lean ====
section
/-! DEFINITION. The named operations over the state that the operations of the table share: the host register space
(spec/20_memory.md R60 to R65), taking and ending a condition (spec/60_exceptions.md R230, R239, R240), the pin, the
outputs of an operation, and loading a configuration (spec/00_scope.md R10). -/

namespace Sys2Proof.Machine

/-- An unsigned element narrower than 16 bits in its field `[n-1:0]`, zero-extended (spec/30_encoding.md R95, R97). -/
def unsignedView (n v : Nat) : Half := (BitVec.ofNat n v).setWidth 16

/-- The 16-bit read view of a host register (spec/30_encoding.md R95 to R97): `MemRead(n, 2)` of spec/00_scope.md
R16. -/
def hostRead (reg : HostReg) (s : State) : Half :=
  match reg with
  | .kp100 => s.kp100
  | .ki100 => s.ki100
  | .kd100 => s.kd100
  | .slot => unsignedView 4 s.slot.val
  | .status => statusWord s
  | .outDuty => unsignedView 7 s.outputDuty
  | .outDutyF => unsignedView 7 s.outputDutyFiltered
  | .tFilt => BitVec.ofInt 16 s.filteredTemperature
  | .setpoint => unsignedView 9 s.setpoint
  | .backupSp => unsignedView 9 s.backupSetpoint
  | .dispSp => unsignedView 9 s.dispSetpoint
  | .dispTemp => BitVec.ofInt 16 s.dispTemp
  | .dispDuty => unsignedView 7 s.dispDuty
  | .holdPer => unsignedView 8 s.holdPeriods
  | .msclkLo => s.msClock.extractLsb' 0 16
  | .msclkHi => s.msClock.extractLsb' 16 16

/-- The effect of a host write: a gain register is replaced, a write to a read-only register is ignored
(spec/44_tick_host.md R213, R214): `MemWrite(n, 2, v)` of spec/00_scope.md R16. -/
def hostWrite (reg : HostReg) (data : Half) (s : State) : State :=
  match reg with
  | .kp100 => { s with kp100 := data }
  | .ki100 => { s with ki100 := data }
  | .kd100 => { s with kd100 := data }
  | _ => s

/-- The one place where the record of a condition is written. -/
def setCondition (c : Condition) (b : Bool) (s : State) : State :=
  match c with
  | .adcTimeout => { s with tipRemoved := b }
  | .sensorRange => { s with tipRemoved := b }
  | .runaway => { s with runaway := b }
  | .disconnected => { s with ironDisconnected := b }

/-- TAKING a condition: its flag is set in the operation that detects it. Nothing is saved, no mode is entered, control
goes nowhere (spec/60_exceptions.md R239). -/
def raiseCondition (c : Condition) (s : State) : State := setCondition c true s

/-- The RETURN from a condition: there is none but that a later evaluation writes the flag 0 (spec/60_exceptions.md
R240). -/
def endCondition (c : Condition) (s : State) : State := setCondition c false s

/-- `DRIVE()`: the pin is recomputed from the current duty, enable and slot (spec/40_sequencer.md R113). -/
def drive (s : State) : State := { s with pin := driveLevel s.outputEnabled s.slot s.outputDuty }

/-- An operation begins with no output pulsed (spec/30_encoding.md R104). -/
def beginOp (s : State) : State := { s with out := {} }

/-- Loading a configuration: an admissible one becomes the step's parameter, another is refused (spec/00_scope.md R10,
spec/70_reset_and_hazards.md R268). It is no event of JBC-CC and no operation does it. -/
def configure (c : Cfg) (s : State) : Host.Outcome State Fault Refusal :=
  match c.accept with
  | some accepted => .next { s with config := accepted }
  | none => .refused .inadmissibleConfig

end Sys2Proof.Machine
end

