-- ==== Sys2Proof/Machine/ModeMachine.lean ====
section
/-! DEFINITION. The encoder-to-setpoint mapper and the mode state machine: the operation `RFR`
(spec/43_encoder_mode.md). -/

namespace Sys2Proof.Machine

/-- One run of the mode state machine (R180), its parts in the order of the rule: write-back (R183), change detection
(R185), setpoints (R184, R186), mode (R190), display snapshot (R196). -/
def refresh (enc : Int) (holder disc : Bool) (s : State) : State :=
  let raw := rawSetpoint enc
  let reduced := reducedSetpoint raw
  let holdPeriods := if raw ≠ s.backupSetpoint then s.cfg.blinkHoldPeriods else s.holdPeriods
  let mode := nextMode s.tipRemoved disc holder
  { beginOp s with
    out := { encWr := encoderWriteBack enc }
    holdPeriods := holdPeriods
    backupSetpoint := raw
    setpoint := if holder then reduced else raw
    modeState := mode
    dispSetpoint := if mode = .holderSleep then (if recentlyChanged holdPeriods then raw else reduced) else raw
    dispTemp := s.filteredTemperature
    dispDuty := if mode.isFault then 0 else s.outputDutyFiltered }

/-- `RFR enc, holder, disc` (R180). -/
def execRfr (enc : Int) (holder disc : Bool) (s : State) : Host.Outcome State Fault Refusal :=
  .next (refresh enc holder disc s)

end Sys2Proof.Machine
end

