-- ==== Sys2Proof/Machine/Reset.lean ====
section
/-! DEFINITION. Reset as an operation: `RST`, and equally the port `rst` (spec/70_reset_and_hazards.md R260). -/

namespace Sys2Proof.Machine

/-- Every element takes its reset value and the output ports go to 0; the configuration and what is outside JBC-CC (the
events still to come) are not touched (R260). -/
def resetAll (s : State) : State := { State.reset with trace := s.trace, config := s.config }

/-- `RST` (R260). -/
def execRst (s : State) : Host.Outcome State Fault Refusal := .next (resetAll s)

end Sys2Proof.Machine
end

