-- ==== Sys2Proof/Machine/Acquisition.lean ====
section
/-! DEFINITION. Temperature acquisition, the first part of an evaluation (spec/41_acquisition.md R130 to R137). -/

namespace Sys2Proof.Machine

/-- The completed branch of `ACQUIRE`: conversion, filter, runaway test, warm-up (R132 to R137). The first component
is `enableReq`. -/
def acquireCompleted (sample : Nat) (s : State) : Bool × State :=
  let temperature := sampleTemperature s.cfg sample
  let filtered := round5 (filterValue s.cfg temperature s.filteredTemperature)
  let hot := runawayTest filtered s.setpoint
  (isWarm s.warmup && !hot,
    setCondition .runaway hot
      { endCondition .sensorRange s with
        measuredTemperature := temperature
        filteredTemperature := filtered
        warmup := nextWarmup s.warmup })

/-- `ACQUIRE(sample, adc_ok)` (R130). A failed acquisition takes its condition, ends a runaway, asks for no enable and
leaves the temperatures and the warm-up counter as they were (R131). -/
def acquire (sample : Nat) (adcOk : Bool) (s : State) : Bool × State :=
  match acquisitionFailure sample adcOk with
  | some c => (false, endCondition .runaway (raiseCondition c s))
  | none => acquireCompleted sample s

end Sys2Proof.Machine
end

