-- ==== Sys2Proof/Machine/ControlLaw.lean ====
section
/-! DEFINITION. The control law and the output filter, the second part of an evaluation (spec/42_control_law.md). -/

namespace Sys2Proof.Machine

/-- `CONTROL_PID()` (R150 to R156). -/
def controlPid (s : State) : State :=
  let e : Rat := ((s.setpoint : Int) - s.filteredTemperature : Int)
  let integral := s.cfg.rnd (clamp (s.integral + e * s.cfg.ts) (-Const.intClamp) Const.intClamp)
  let derivative := s.cfg.rnd ((e - s.error0) / s.cfg.ts)
  let u := s.cfg.rnd (gain s.kp100 * e + gain s.ki100 * integral + gain s.kd100 * derivative + s.cfg.bias)
  { s with
    error1 := s.error0
    error0 := e
    integral := integral
    derivative := derivative
    outputDuty := quantiseDuty u }

/-- `CONTROL_HYST()` (R158); ON is duty 100 and OFF is duty 0 (R159). -/
def controlHyst (s : State) : State :=
  let on := nextHystOn s.filteredTemperature s.setpoint s.hystOn
  { s with hystOn := on, outputDuty := if on then Const.dutyMax else 0 }

/-- The policy of the configuration, one of the two (R149). -/
def controlLaw (s : State) : State :=
  match s.cfg.policy with
  | .pid => controlPid s
  | .hyst => controlHyst s

/-- `OUTFILT()`, after either policy (R160). -/
def outFilter (s : State) : State :=
  { s with outputDutyFiltered := filterDuty s.outputDuty s.outputDutyFiltered }

end Sys2Proof.Machine
end

