-- ==== Sys2Proof/Machine/Sequencer.lean ====
section
/-! DEFINITION. The phase-sync sequencer: `EVALUATE`, `SAFETY` and the operations `ZCM` and `ZCD`
(spec/40_sequencer.md). -/

namespace Sys2Proof.Machine

/-- The sensor levels of the measurement edge become the flags (R116). -/
def latchLevels (disc holder : Bool) (s : State) : State :=
  { setCondition .disconnected disc s with ironInHolder := holder }

/-- The output is forced off: the enable and both duties are 0 (R116). -/
def forceOff (s : State) : State := { s with outputEnabled := false, outputDuty := 0, outputDutyFiltered := 0 }

/-- `SAFETY(disc, holder, enableReq)` (R116): the sensor levels are latched, and each of the two safety flags alone
forces the output off (spec/90_conflicts.md C6). -/
def safety (disc holder enableReq : Bool) (s : State) : State :=
  let latched := latchLevels disc holder s
  if latched.tipRemoved || latched.ironDisconnected then forceOff latched
  else { latched with outputEnabled := enableReq }

/-- `EVALUATE(sample, adc_ok, disc, holder)`: acquisition, then control law and output filter unless the acquisition
failed, then the safety-flag update (R114, R115). -/
def evaluate (sample : Nat) (adcOk disc holder : Bool) (s : State) : State :=
  let acquired := acquire sample adcOk s
  let controlled := if acquired.2.tipRemoved then acquired.2 else outFilter (controlLaw acquired.2)
  safety disc holder acquired.1 controlled

/-- The sampling gate (R111, R118): the pin is off before the conversion is started. -/
def startConversion (s : State) : State := { s with pin := false, out := { adcStart := true } }

/-- The measurement edge as a change of state (R111): in slot 0 the pin is off before the conversion starts and the
evaluation follows; in every slot the pin is recomputed. -/
def measurementEdge (sample : Nat) (adcOk disc holder : Bool) (s : State) : State :=
  drive
    (if s.slot = 0 then
      evaluate sample adcOk disc holder (startConversion (beginOp s))
    else beginOp s)

/-- The drive edge as a change of state (R112): the slot advances modulo 11 and the pin is recomputed. -/
def driveEdge (s : State) : State := drive { beginOp s with slot := s.slot + 1 }

/-- `ZCM sample, adc_ok, disc, holder` (R111). -/
def execZcm (sample : Nat) (adcOk disc holder : Bool) (s : State) : Host.Outcome State Fault Refusal :=
  .next (measurementEdge sample adcOk disc holder s)

/-- `ZCD` (R112). -/
def execZcd (s : State) : Host.Outcome State Fault Refusal := .next (driveEdge s)

end Sys2Proof.Machine
end

