-- ==== Sys2Proof/Machine/TickHost.lean ====
section
/-! DEFINITION. The tick unit and the host access: the operations `TICK`, `WRG` and `RDS` (spec/44_tick_host.md). -/

namespace Sys2Proof.Machine

/-- One tick (R211): the millisecond clock wraps at 2^32; at a blink-period boundary the blink timer restarts, the phase
toggles and a running hold loses one period. -/
def tickOnce (s : State) : State :=
  let s := { beginOp s with msClock := s.msClock + 1, blinkMs := s.blinkMs + 1 }
  if s.blinkMs = s.cfg.blinkPeriodMs then
    { s with
      blinkMs := 0
      blinkPhase := !s.blinkPhase
      holdPeriods := if 0 < s.holdPeriods then s.holdPeriods - 1 else s.holdPeriods }
  else s

/-- `TICK` (R211). -/
def execTick (s : State) : Host.Outcome State Fault Refusal := .next (tickOnce s)

/-- `WRG reg, data` (R213, R214). -/
def execWrg (reg : HostReg) (data : Half) (s : State) : Host.Outcome State Fault Refusal :=
  .next (hostWrite reg data (beginOp s))

/-- `RDS reg` (R215): the view appears on `h_rdata` and no element of the state changes. -/
def execRds (reg : HostReg) (s : State) : Host.Outcome State Fault Refusal :=
  .next { beginOp s with out := { hRdata := some (hostRead reg s) } }

end Sys2Proof.Machine
end

