-- ==== Sys2Proof/Machine/Dispatch.lean ====
section
/-! DEFINITION. One arm for each operation of spec/opcode_table.json. -/

namespace Sys2Proof.Machine

/-- What an operation does to a state. -/
def exec (i : Instr) (s : State) : Host.Outcome State Fault Refusal :=
  match i with
  | .zcm sample adcOk disc holder => Sys2Proof.Machine.execZcm sample adcOk disc holder s
  | .zcd => Sys2Proof.Machine.execZcd s
  | .tick => Sys2Proof.Machine.execTick s
  | .rfr enc holder disc => Sys2Proof.Machine.execRfr enc holder disc s
  | .wrg reg data => Sys2Proof.Machine.execWrg reg data s
  | .rds reg => Sys2Proof.Machine.execRds reg s
  | .rst => Sys2Proof.Machine.execRst s

end Sys2Proof.Machine
end

