-- ==== Sys2Proof/Machine/Step.lean ====
section
/-! DEFINITION. One step: the next event word of the trace is taken, decoded and executed (spec/00_scope.md R6, R18;
spec/30_encoding.md R85). -/

namespace Sys2Proof.Machine

/-- One step. With no event there is no operation and nothing changes (spec/70_reset_and_hazards.md R261,
spec/40_sequencer.md R122; assumption 1). A reserved word is refused by name, with no step (spec/30_encoding.md R85).
Any other word leaves the trace and its operation is executed. -/
def step (s : State) : Host.Outcome State Fault Refusal :=
  match s.trace with
  | [] => .next s
  | w :: rest =>
    match decode w with
    | .ok i => exec i { s with trace := rest }
    | .error why => .refused (.reservedWord w why)

/-- The event word presented next: it goes in front of the events still to come, so the very next step takes it. -/
def State.withFetchWord (s : State) (nbits w : Nat) : State :=
  { s with trace := BitVec.ofNat 32 (w % 2 ^ nbits) :: s.trace }

end Sys2Proof.Machine
end

