-- ==== Sys2Proof/Machine/Agents.lean ====
section
/-! DEFINITION. The four agents and what each owns (spec/00_scope.md R17, spec/10_state.md R54), and the order in which
operations of different agents may be taken (spec/20_memory.md R66, R68; spec/60_exceptions.md R237). -/

namespace Sys2Proof.Machine

/-- The agents of R17. -/
inductive Agent
  | seq
  | mode
  | ticker
  | host
deriving DecidableEq, Repr

/-- Which agent executes an operation; reset belongs to none (R17). -/
def agentOf : Instr → Option Agent
  | .zcm _ _ _ _ => some .seq
  | .zcd => some .seq
  | .tick => some .ticker
  | .rfr _ _ _ => some .mode
  | .wrg _ _ => some .host
  | .rds _ => some .host
  | .rst => none

/-- `t` has the elements agent SEQ owns as `s` has them (R54, first row). -/
def SameSeq (s t : State) : Prop :=
  t.slot = s.slot ∧ t.pin = s.pin ∧ t.outputDuty = s.outputDuty ∧ t.outputDutyFiltered = s.outputDutyFiltered
    ∧ t.outputEnabled = s.outputEnabled ∧ t.warmup = s.warmup ∧ t.hystOn = s.hystOn
    ∧ t.measuredTemperature = s.measuredTemperature ∧ t.filteredTemperature = s.filteredTemperature
    ∧ t.error0 = s.error0 ∧ t.error1 = s.error1 ∧ t.error2 = s.error2 ∧ t.integral = s.integral
    ∧ t.derivative = s.derivative ∧ t.tipRemoved = s.tipRemoved ∧ t.ironDisconnected = s.ironDisconnected
    ∧ t.ironInHolder = s.ironInHolder ∧ t.runaway = s.runaway

/-- `t` has the elements agent MODE owns as `s` has them (R54, second row). -/
def SameMode (s t : State) : Prop :=
  t.modeState = s.modeState ∧ t.setpoint = s.setpoint ∧ t.backupSetpoint = s.backupSetpoint
    ∧ t.dispSetpoint = s.dispSetpoint ∧ t.dispTemp = s.dispTemp ∧ t.dispDuty = s.dispDuty

/-- `t` has the elements agent TICKER owns as `s` has them (R54, fourth row). -/
def SameTicker (s t : State) : Prop :=
  t.msClock = s.msClock ∧ t.blinkMs = s.blinkMs ∧ t.blinkPhase = s.blinkPhase

/-- `t` has the elements agent HOST owns as `s` has them (R54, fifth row). -/
def SameHost (s t : State) : Prop := t.kp100 = s.kp100 ∧ t.ki100 = s.ki100 ∧ t.kd100 = s.kd100

/-- A zero-crossing edge. -/
def isEdge : Instr → Bool
  | .zcm _ _ _ _ => true
  | .zcd => true
  | .tick => false
  | .rfr _ _ _ => false
  | .wrg _ _ => false
  | .rds _ => false
  | .rst => false

/-- No edge stands behind another operation. -/
def EdgesFirst (order : List Instr) : Prop := order.Pairwise fun earlier later => isEdge later → isEdge earlier

/-- The orders in which the events presented at one instant may be taken (R237): an edge before the others, the others
in any order; a reset comes before everything. The spec does not say whether the events a reset overrides are lost or
taken after it, so any part of them may follow (assumption 6). -/
def Serialization (batch order : List Instr) : Prop :=
  if .rst ∈ batch then
    ∃ rest, order = .rst :: rest ∧ EdgesFirst rest ∧ rest.Subperm (batch.filter (· ≠ .rst))
  else order.Perm batch ∧ EdgesFirst order

/-- A trace of the events presented at successive instants: one allowed order after the other (R68, R237). -/
inductive LegalTrace : List (List Instr) → List Instr → Prop
  | nil : LegalTrace [] []
  | cons {batch order : List Instr} {batches : List (List Instr)} {tr : List Instr} :
      Serialization batch order → LegalTrace batches tr → LegalTrace (batch :: batches) (order ++ tr)

end Sys2Proof.Machine
end

