-- ==== Sys2Proof/Machine/Ports.lean ====
section
/-! DEFINITION. The ports of JBC-CC and how their levels and strobes become events (spec/30_encoding.md R80, R81,
R104). -/

namespace Sys2Proof.Machine

/-- The input ports at one instant (R80). Sensor levels are logical: 1 means the condition named holds. -/
structure Inputs where
  rst : Bool := false
  zc : Bool := false
  adcSample : BitVec 12 := 0
  adcOk : Bool := false
  sensDisc : Bool := false
  sensHolder : Bool := false
  encCount : Half := 0
  tick1ms : Bool := false
  refresh : Bool := false
  hAddr : BitVec 4 := 0
  hWdata : Half := 0
  hWe : Bool := false
  hRe : Bool := false
deriving DecidableEq, Repr

/-- The output ports (R80). `encWr` is `some v` while `enc_wr` is pulsed with `enc_wr_val` = v, and `hRdata` is the value
of a read. -/
structure OutputPorts where
  heater : Bool
  adcStart : Bool
  encWr : Option Half
  hRdata : Option Half
deriving DecidableEq, Repr

/-- The output ports after an operation: `heater` is always the pin, the others are the operation's own (R104). -/
def outputPorts (s : State) : OutputPorts := ⟨s.pin, s.out.adcStart, s.out.encWr, s.out.hRdata⟩

/-- The level `zc` has after the measurement edge. -/
def Edge.level : Edge → Bool
  | .rising => true
  | .falling => false

/-- A change of `zc` in the direction `ZC_MEAS_EDGE` is the measurement edge, one in the other direction the drive edge
(R81). DESIGN CHOICE (assumption 16): the word of a measurement edge records the levels of `adc_sample` and `adc_ok` in every
slot, as R81 says of all levels; R86 has a trace write both as 0 outside slot 0, and the ports do not know the slot. There
`ZCM` ignores its operands (spec/40_sequencer.md R111). -/
def zcEvents (e : Edge) (before : Bool) (now : Inputs) : List Instr :=
  if now.zc = before then []
  else if now.zc = Edge.level e then [.zcm now.adcSample.toNat now.adcOk now.sensDisc now.sensHolder]
  else [.zcd]

/-- The events presented at one instant, with the levels sampled at it (R81). -/
def presented (e : Edge) (before : Bool) (now : Inputs) : List Instr :=
  (if now.rst then [.rst] else []) ++ zcEvents e before now
    ++ (if now.tick1ms then [.tick] else [])
    ++ (if now.refresh then [.rfr (sext16 now.encCount) now.sensHolder now.sensDisc] else [])
    ++ (if now.hWe then [.wrg (HostReg.ofNumber now.hAddr) now.hWdata] else [])
    ++ (if now.hRe then [.rds (HostReg.ofNumber now.hAddr)] else [])

/-- The events presented at successive instants, from a level of `zc` on. -/
def presentedAll (e : Edge) : Bool → List Inputs → List (List Instr)
  | _, [] => []
  | before, now :: later => presented e before now :: presentedAll e now.zc later

/-- The premise `ZC_ALTERNATE` on the edges of a trace (spec/40_sequencer.md R119, R121): no two measurement edges and
no two drive edges in a row. -/
def Alternating (tr : List Instr) : Prop := (tr.filter isEdge).IsChain fun a b => (a = .zcd) ↔ b ≠ .zcd

end Sys2Proof.Machine
end

