-- ==== Sys2Proof/Machine/Trace.lean ====
section
/-! DEFINITION. Traces of operations: running one from a state, the states it visits, the pseudo-operations of
spec/30_encoding.md R106 and the one-line syntax of R105. -/

namespace Sys2Proof.Machine

/-- A list of operations executed in order from a state (spec/00_scope.md R18). -/
def runOps : List Instr → State → Host.Outcome State Fault Refusal
  | [], s => .next s
  | i :: later, s =>
    match exec i s with
    | .next t => runOps later t
    | .fault r => .fault r
    | .refused r => .refused r

/-- The states after each operation of a trace, the first operation's first. -/
def visited : List Instr → State → List State
  | [], _ => []
  | i :: later, s =>
    match exec i s with
    | .next t => t :: visited later t
    | .fault _ => []
    | .refused _ => []

/-- Whether an operation performs an evaluation in a state (spec/00_scope.md R19). -/
def evaluates (i : Instr) (s : State) : Bool :=
  match i with
  | .zcm _ _ _ _ => decide (s.slot = 0)
  | .zcd => false
  | .tick => false
  | .rfr _ _ _ => false
  | .wrg _ _ => false
  | .rds _ => false
  | .rst => false

/-- `WRGAINS kp, ki, kd` (R106). -/
def wrGains (kp ki kd : Half) : List Instr := [.wrg .kp100 kp, .wrg .ki100 ki, .wrg .kd100 kd]

/-- `SLOTPAIR` (R106). -/
def slotPair : List Instr := [.zcd, .zcm 0 false false false]

/-- A number of `SLOTPAIR`s in a row. -/
def slotPairs (n : Nat) : List Instr := (List.replicate n slotPair).flatten

/-- `CYCLE s, ok, disc, holder` (R106). -/
def cycle (sample : Nat) (adcOk disc holder : Bool) : List Instr :=
  .zcm sample adcOk disc holder :: (slotPairs 10 ++ [.zcd])

/-- `TICKS n` (R106). -/
def ticks (n : Nat) : List Instr := List.replicate n .tick

/-- Edges that alternate, a drive edge before each measurement edge: one slot for each entry, which holds the operands
of the measurement edge (spec/40_sequencer.md R110, R119). -/
def edgePairs (entries : List (Nat × Bool × Bool × Bool)) : List Instr :=
  entries.flatMap fun x => [.zcd, .zcm x.1 x.2.1 x.2.2.1 x.2.2.2]

/-- Whether an operation completes an acquisition in a state: it evaluates, a sample arrived and it is not above the
threshold (spec/41_acquisition.md R131). -/
def acquires (i : Instr) (s : State) : Bool :=
  match i with
  | .zcm sample adcOk _ _ => decide (s.slot = 0) && adcOk && decide (sample ≤ Const.tipThreshold)
  | .zcd => false
  | .tick => false
  | .rfr _ _ _ => false
  | .wrg _ _ => false
  | .rds _ => false
  | .rst => false

/-- Whether the next step completes an acquisition. -/
def nextAcquires (s : State) : Bool :=
  match s.trace with
  | [] => false
  | w :: _ =>
    match decode w with
    | .ok i => acquires i s
    | .error _ => false

/-- How many of a number of steps complete an acquisition. -/
def acquisitions : Nat → State → Nat
  | 0, _ => 0
  | n + 1, s =>
    match step s with
    | .next t => (if nextAcquires s then 1 else 0) + acquisitions n t
    | .fault _ => 0
    | .refused _ => 0

/-! ### One line of a trace (R105) -/

/-- The value of a digit, decimal or hexadecimal. -/
def digitValue (base : Nat) (c : Char) : Option Nat :=
  let v :=
    if '0' ≤ c ∧ c ≤ '9' then c.toNat - '0'.toNat
    else if 'a' ≤ c ∧ c ≤ 'f' then c.toNat - 'a'.toNat + 10
    else if 'A' ≤ c ∧ c ≤ 'F' then c.toNat - 'A'.toNat + 10
    else 16
  if v < base then some v else none

/-- The value of a non-empty list of digits, most significant first. -/
def digitsValue (base : Nat) : Nat → List Char → Option Nat
  | acc, [] => some acc
  | acc, c :: later =>
    match digitValue base c with
    | some d => digitsValue base (acc * base + d) later
    | none => none

/-- A natural number in decimal or `0x` hexadecimal (R105). -/
def parseNat : List Char → Option Nat
  | [] => none
  | ['0', 'x'] => none
  | '0' :: 'x' :: digits => digitsValue 16 0 digits
  | digits => digitsValue 10 0 digits

/-- A number with a leading minus sign allowed (R105). DESIGN CHOICE (assumption 15): the sign may stand before a `0x` number
too, so `-0x5` is -5; R105 names it with decimal numbers and does not say. -/
def parseInt : List Char → Option Int
  | '-' :: digits => (parseNat digits).map fun n => -(n : Int)
  | digits => (parseNat digits).map fun n => (n : Int)

/-- A bool of R12. -/
def parseBool (cs : List Char) : Option Bool :=
  match parseNat cs with
  | some 0 => some false
  | some 1 => some true
  | _ => none

/-- A 16-bit operand. -/
def parseHalf (cs : List Char) : Option Half :=
  match parseNat cs with
  | some n => if n < 65536 then some (BitVec.ofNat 16 n) else none
  | none => none

/-- The names of the register map (spec/30_encoding.md R95). -/
def regNames : List (List Char × HostReg) :=
  [(['K', 'P', '1', '0', '0'], .kp100), (['K', 'I', '1', '0', '0'], .ki100), (['K', 'D', '1', '0', '0'], .kd100),
   (['S', 'L', 'O', 'T'], .slot), (['S', 'T', 'A', 'T', 'U', 'S'], .status),
   (['O', 'U', 'T', 'D', 'U', 'T', 'Y'], .outDuty), (['O', 'U', 'T', 'D', 'U', 'T', 'Y', 'F'], .outDutyF),
   (['T', 'F', 'I', 'L', 'T'], .tFilt), (['S', 'E', 'T', 'P', 'O', 'I', 'N', 'T'], .setpoint),
   (['B', 'A', 'C', 'K', 'U', 'P', 'S', 'P'], .backupSp), (['D', 'I', 'S', 'P', 'S', 'P'], .dispSp),
   (['D', 'I', 'S', 'P', 'T', 'E', 'M', 'P'], .dispTemp), (['D', 'I', 'S', 'P', 'D', 'U', 'T', 'Y'], .dispDuty),
   (['H', 'O', 'L', 'D', 'P', 'E', 'R'], .holdPer), (['M', 'S', 'C', 'L', 'K', '_', 'L', 'O'], .msclkLo),
   (['M', 'S', 'C', 'L', 'K', '_', 'H', 'I'], .msclkHi)]

/-- A register by name or by number (R105). -/
def parseReg (cs : List Char) : Option HostReg :=
  match regNames.lookup cs with
  | some r => some r
  | none =>
    match parseNat cs with
    | some n => if n < 16 then some (HostReg.ofNumber (BitVec.ofNat 4 n)) else none
    | none => none

/-- The text before a comment (R105). -/
def withoutComment (cs : List Char) : List Char := cs.takeWhile (· ≠ ';')

/-- The text without the spaces around it. -/
def trimmed (cs : List Char) : List Char :=
  ((cs.dropWhile (· = ' ')).reverse.dropWhile (· = ' ')).reverse

/-- The operands of a line, between commas (R105). -/
def operandTexts (cs : List Char) : List (List Char) :=
  if trimmed cs = [] then [] else (cs.splitOn ',').map trimmed

/-- The operations a mnemonic with its operands stands for: one operation, or the expansion of a pseudo-operation
(R105, R106). Operands outside the ranges of R84 stand for nothing. -/
def parseOperation (mnemonic : List Char) (operands : List (List Char)) : Option (List Instr) :=
  match mnemonic, operands with
  | ['Z', 'C', 'M'], [a, b, c, d] => do
    let i := Instr.zcm (← parseNat a) (← parseBool b) (← parseBool c) (← parseBool d)
    if i.wellFormed then some [i] else none
  | ['Z', 'C', 'D'], [] => some [.zcd]
  | ['T', 'I', 'C', 'K'], [] => some [.tick]
  | ['R', 'F', 'R'], [a, b, c] => do
    let i := Instr.rfr (← parseInt a) (← parseBool b) (← parseBool c)
    if i.wellFormed then some [i] else none
  | ['W', 'R', 'G'], [a, b] => do some [.wrg (← parseReg a) (← parseHalf b)]
  | ['R', 'D', 'S'], [a] => do some [.rds (← parseReg a)]
  | ['R', 'S', 'T'], [] => some [.rst]
  | ['W', 'R', 'G', 'A', 'I', 'N', 'S'], [a, b, c] => do
    some (wrGains (← parseHalf a) (← parseHalf b) (← parseHalf c))
  | ['S', 'L', 'O', 'T', 'P', 'A', 'I', 'R'], [] => some slotPair
  | ['C', 'Y', 'C', 'L', 'E'], [a, b, c, d] => do
    let n ← parseNat a
    if n ≤ Const.adcMax then some (cycle n (← parseBool b) (← parseBool c) (← parseBool d)) else none
  | ['T', 'I', 'C', 'K', 'S'], [a] => do some (ticks (← parseNat a))
  | _, _ => none

/-- One line of a trace (R105): the mnemonic, a space, the operands between commas, a comment after `;`. A line that
holds only a comment stands for no operation. -/
def parseLine (line : List Char) : Option (List Instr) :=
  let text := trimmed (withoutComment line)
  if text = [] then some []
  else
    parseOperation (text.takeWhile (· ≠ ' ')) (operandTexts (text.dropWhile (· ≠ ' ')))

end Sys2Proof.Machine
end

