-- ==== Sys2Proof/Safety.lean ====
section
/-! DEFINITION. What counts as a safe state: the invariants of spec/10_state.md R55 with the facts they rest on, in the
terms the statements use. -/

namespace Sys2Proof.Machine

/-- A duty of the set 0, 10, ..., 100 (spec/10_state.md R24, R25). -/
abbrev DutyLegal (duty : Nat) : Prop := 10 ∣ duty ∧ duty ≤ 100

/-- What spec/42_control_law.md R153 requires of a non-identity `NUM.rnd` for the integral's range to survive it: it
maps [-100, 100] into itself. -/
def RndKeepsClamp (c : Cfg) : Prop := ∀ x : Rat, -100 ≤ x → x ≤ 100 → -100 ≤ c.rnd x ∧ c.rnd x ≤ 100

/-- The invariant of JBC-CC. It holds at reset and every step keeps it. -/
structure Inv (s : State) : Prop where
  /-- R55(a). -/
  integral : RndKeepsClamp s.cfg → -100 ≤ s.integral ∧ s.integral ≤ 100
  /-- R55(b). -/
  duty : DutyLegal s.outputDuty
  /-- R55(b). -/
  dutyFiltered : DutyLegal s.outputDutyFiltered
  /-- R50. -/
  dispDuty : DutyLegal s.dispDuty
  /-- R55(c). -/
  filtered : 5 ∣ s.filteredTemperature
  /-- R50. -/
  dispTemp : 5 ∣ s.dispTemp
  /-- The pin is what the pin rule gives (R113), from which R55(e) and (f) follow. -/
  pin : s.pin = driveLevel s.outputEnabled s.slot s.outputDuty
  /-- What an enabled output rests on (spec/40_sequencer.md R117), from which R55(f) and (g) follow. -/
  enabled : s.outputEnabled = true →
    s.tipRemoved = false ∧ s.ironDisconnected = false ∧ s.runaway = false ∧ s.warmup = 3
  /-- A safety flag zeroes both duties (spec/40_sequencer.md R116). -/
  forced : s.tipRemoved = true ∨ s.ironDisconnected = true → s.outputDuty = 0 ∧ s.outputDutyFiltered = 0
  /-- Tip removal and runaway exclude each other (spec/60_exceptions.md R238). -/
  exclusive : ¬ (s.tipRemoved = true ∧ s.runaway = true)
  /-- R55(h) and the holder rule (spec/43_encoder_mode.md R186). -/
  setpoint : s.setpoint = s.backupSetpoint ∨ s.setpoint = min s.backupSetpoint 150
  /-- R55(h). -/
  backup : s.backupSetpoint ≤ 450
  /-- R50. -/
  dispSetpoint : s.dispSetpoint ≤ 450
  /-- R49. -/
  hold : s.holdPeriods ≤ s.cfg.blinkHoldPeriods
  /-- R52. -/
  blink : s.blinkMs < s.cfg.blinkPeriodMs
  /-- R32: `error[2]` is 0 for ever. -/
  error2 : s.error2 = 0
  /-- The setpoint of the two normal modes (spec/43_encoder_mode.md R191). -/
  active : s.modeState = .active → s.setpoint = s.backupSetpoint
  /-- The setpoint of the two normal modes (spec/43_encoder_mode.md R191). -/
  holderSleep : s.modeState = .holderSleep → s.setpoint = min s.backupSetpoint 150
  /-- The displayed duty of the two fault modes (spec/43_encoder_mode.md R191, R192). -/
  faultMode : s.modeState.isFault = true → s.dispDuty = 0
  /-- The hysteresis memory is idle under the PID policy (R28). -/
  pidPolicy : s.cfg.policy = .pid → s.hystOn = false
  /-- The PID elements are idle under the hysteresis policy and no intermediate duty occurs
  (spec/42_control_law.md R158, R159). -/
  hystPolicy : s.cfg.policy = .hyst → s.error0 = 0 ∧ s.error1 = 0 ∧ s.integral = 0 ∧ s.derivative = 0
    ∧ (s.outputDuty = 0 ∨ s.outputDuty = 100)
  /-- With exact arithmetic the temperatures stay inside their 16-bit views (R31, spec/30_encoding.md R97). -/
  range : s.cfg.rounding = .identity →
    (-32765 ≤ s.filteredTemperature ∧ s.filteredTemperature ≤ 32765) ∧ (-32765 ≤ s.dispTemp ∧ s.dispTemp ≤ 32765)

/-- The invariants that spec/10_state.md R55 lists, in its letters; (d) is the type of `slot`. -/
structure SafeState (s : State) : Prop where
  a : RndKeepsClamp s.cfg → -100 ≤ s.integral ∧ s.integral ≤ 100
  b : DutyLegal s.outputDuty ∧ DutyLegal s.outputDutyFiltered
  c : s.filteredTemperature % 5 = 0
  e : s.slot = 0 → s.pin = false
  f : s.pin = true → s.outputEnabled = true ∧ s.tipRemoved = false ∧ s.ironDisconnected = false
  g : s.warmup.val < 3 → s.outputEnabled = false
  h : s.setpoint ≤ s.backupSetpoint ∧ s.backupSetpoint ≤ 450

/-- What n acquisitions completed so far allow (spec/41_acquisition.md R136, spec/40_sequencer.md R113, R117): the warm-up
counter has counted no more, and the heater is on only with the output enabled, which takes four. -/
structure WarmupHistory (n : Nat) (s : State) : Prop where
  warmup : s.warmup.val ≤ n
  enabled : s.outputEnabled = true → 4 ≤ n
  pin : s.pin = true → s.outputEnabled = true

/-- A calibration under which no accepted sample converts to less than 25/6 °C, computed exactly: with it the filtered
temperature after a completed acquisition is at least 5, so a setpoint of 0 is always a runaway
(spec/41_acquisition.md R135). `REFCFG` has it. -/
structure WarmCalibration (c : Cfg) : Prop where
  exact : c.rounding = .identity
  warm : ∀ sample : Nat, sample ≤ 3500 → 25 / 6 ≤ c.exactTemperature sample

/-- The heater is off for want of a setpoint (spec/70_reset_and_hazards.md R262). -/
structure OffWithoutSetpoint (s : State) : Prop where
  setpoint : s.setpoint = 0
  enabled : s.outputEnabled = false
  pin : s.pin = false
  filtered : 0 ≤ s.filteredTemperature

/-- The state without the elements that no operation reads except a read of the clock by the host: the measured
temperature (spec/10_state.md R30), the derivative (R34), `error[2]` (R32), the millisecond clock (R51), and the outputs
of the last operation. -/
def withoutUnread (s : State) : State :=
  { s with measuredTemperature := 0, derivative := 0, error2 := 0, msClock := 0, out := {} }

/-- The state without the outputs of the last operation. -/
def withoutOutputs (s : State) : State := { s with out := {} }

end Sys2Proof.Machine
end

