-- ==== Sys2Proof/Certificates/Slice0/Obligations.lean ====
section
/-! DEFINITION. The statements for the provers. A docstring says which sentence of spec/ a statement formalises, and
where it rests on a decision the spec marks as its own (spec/92_eei_decisions.md) or on a choice of the model. -/

open Sys2Proof Sys2Proof.Machine

/-! ### Event words -/

/-- The worked encodings of spec/30_encoding.md R86 to R90 decode to the operations they are given for, one word for
each of the seven rows (the encoding is the spec's decision D1). -/
def Obligations.EventWordExamplesDecode : Prop :=
  decode 0x100011F4 = .ok (.zcm 500 true false false) ∧ decode 0x20000000 = .ok .zcd
    ∧ decode 0x30000000 = .ok .tick ∧ decode 0x40011388 = .ok (.rfr 5000 true false)
    ∧ decode 0x4000FFFB = .ok (.rfr (-5) false false) ∧ decode 0x500000AF = .ok (.wrg .kp100 175)
    ∧ decode 0x60040000 = .ok (.rds .status) ∧ decode 0x70000000 = .ok .rst

/-- Decode and encode agree: every operation whose operands fit their fields (R84) is read back from its word, with every
operand. -/
def Obligations.DecodeOfEncode : Prop := ∀ i : Instr, i.WellFormed → decode (encode i) = .ok i

/-- The other direction: a word that is an operation is that operation's word, so no two words mean the same and an
operation that is read fits its fields. -/
def Obligations.EncodeOfDecode : Prop :=
  ∀ (w : Word) (i : Instr), decode w = .ok i → i.WellFormed ∧ encode i = w

/-- Match and mask of R83: a word is an operation of a row exactly when its masked bits match, and R85: it is reserved
exactly when it matches no row (the encoding is the spec's decision D1, the refusal its decision D29). -/
def Obligations.WordsAndRows : Prop :=
  ∀ w : Word,
    ((∃ sample adcOk disc holder, decode w = .ok (.zcm sample adcOk disc holder)) ↔ w &&& 0xFFFF8000 = 0x10000000)
    ∧ (decode w = .ok .zcd ↔ w &&& 0xFFFFFFFF = 0x20000000)
    ∧ (decode w = .ok .tick ↔ w &&& 0xFFFFFFFF = 0x30000000)
    ∧ ((∃ enc holder disc, decode w = .ok (.rfr enc holder disc)) ↔ w &&& 0xFFFC0000 = 0x40000000)
    ∧ ((∃ reg data, decode w = .ok (.wrg reg data)) ↔ w &&& 0xFFF00000 = 0x50000000)
    ∧ ((∃ reg, decode w = .ok (.rds reg)) ↔ w &&& 0xFFF0FFFF = 0x60000000)
    ∧ (decode w = .ok .rst ↔ w &&& 0xFFFFFFFF = 0x70000000)
    ∧ ((∃ why, decode w = .error why) ↔
        w &&& 0xFFFF8000 ≠ 0x10000000 ∧ w ≠ 0x20000000 ∧ w ≠ 0x30000000 ∧ w &&& 0xFFFC0000 ≠ 0x40000000
          ∧ w &&& 0xFFF00000 ≠ 0x50000000 ∧ w &&& 0xFFF0FFFF ≠ 0x60000000 ∧ w ≠ 0x70000000)

/-! ### One step -/

/-- A step runs the decoded operation: the event word in front leaves the trace and its operation is executed on the
state, with nothing else around it (R6, R18; that the trace stands in the state is assumption 1). -/
def Obligations.StepExecutesTheDecodedOperation : Prop :=
  ∀ (s : State) (w : Word) (rest : List Word) (i : Instr),
    s.trace = w :: rest → decode w = .ok i → step s = exec i { s with trace := rest }

/-- A reserved word is refused by name, and nothing else is: a refusal says that the word in front is reserved, and no
step faults (R85, R230; the refusal is the spec's decision D29; the trace the word stands in is assumption 1). -/
def Obligations.StepRefusesExactlyReservedWords : Prop :=
  (∀ (s : State) (w : Word) (rest : List Word) (why : DecodeError),
      s.trace = w :: rest → decode w = .error why → step s = .refused (.reservedWord w why))
    ∧ (∀ (s : State) (r : Refusal), step s = .refused r →
      ∃ w rest why, s.trace = w :: rest ∧ decode w = .error why ∧ r = .reservedWord w why)
    ∧ ∀ (s : State) (r : Fault), step s ≠ .fault r

/-- With no event there is no operation: R261 `nothing executes after reset until an event arrives`, R122 `no operation
occurs`. That a step then leaves the whole state as it is, is the model's reading (assumption 1). -/
def Obligations.StepWithoutEventChangesNothing : Prop := ∀ s : State, s.trace = [] → step s = .next s

/-- Every operation completes in every state (R73 `every operation completes`, R230 a fault `never stops the
operation`). -/
def Obligations.EveryOperationCompletes : Prop := ∀ (i : Instr) (s : State), ∃ t, exec i s = .next t

/-! ### The edges -/

/-- `ZCD` (R112; that it advances the slot is the spec's decisions D3 and D4, the bound `1 <= slot` its decision D5): the
slot advances modulo 11, the pin follows the pin rule with the new slot, nothing else changes. -/
def Obligations.DriveEdgeFullEffect : Prop :=
  ∀ s : State,
    exec .zcd s = .next
      { s with
        slot := ⟨(s.slot.val + 1) % 11, Nat.mod_lt _ (by decide)⟩
        pin := s.outputEnabled && decide (1 ≤ (s.slot.val + 1) % 11)
          && decide ((s.slot.val + 1) % 11 ≤ s.outputDuty / 10)
        out := {} }

/-- `ZCM` in a slot other than 0 (R111; the spec's decisions D3 and D5): only the pin is recomputed, all four operands
are ignored and no conversion is started. -/
def Obligations.MeasurementEdgeOutsideSlotZero : Prop :=
  ∀ (s : State) (sample : Nat) (adcOk disc holder : Bool), s.slot ≠ 0 →
    exec (.zcm sample adcOk disc holder) s = .next
      { s with pin := s.outputEnabled && decide (s.slot.val ≤ s.outputDuty / 10), out := {} }

/-! ### Faults of an evaluation -/

/-- R231 `SensorRange`, with everything else the same `ZCM` does: a sample above 3500 with `adc_ok` = 1 in slot 0 records
`tipRemoved` (STATUS bit 2, the spec's decision D39) and writes `runaway` 0 (R131); filter, control law and output filter
are skipped (D13), so the temperatures and the PID elements are held (assumption 13) and the acquisition does not count for
the warm-up (D15); both sensor levels are latched (R116, D18); enable and duties are forced to 0 (D17), the pin is 0 for the
whole following cycle, and the conversion was started with it 0 (D37). The next refresh shows `FAULT_REMOVED`, and the next
evaluation whose acquisition completes clears the flag (D14). The fields for outputs, trace and configuration in the
equation are assumptions 2, 1 and 3. -/
def Obligations.SensorRangeFault : Prop :=
  ∀ (s : State) (sample : Nat) (disc holder : Bool), s.slot = 0 → 3500 < sample →
    ∃ t, exec (.zcm sample true disc holder) s = .next t
      ∧ t = { s with
          tipRemoved := true, runaway := false, ironDisconnected := disc, ironInHolder := holder
          outputEnabled := false, outputDuty := 0, outputDutyFiltered := 0, pin := false
          out := { adcStart := true } }
      ∧ (hostRead .status t).getLsbD 2 = true
      ∧ (∀ u ∈ visited (slotPairs 10 ++ [.zcd]) t, u.pin = false)
      ∧ (∀ (enc : Int) (h d : Bool), ∃ u, exec (.rfr enc h d) t = .next u ∧ u.modeState = .faultRemoved)
      ∧ (∀ (later : Nat) (d h : Bool), later ≤ 3500 →
          ∃ u, exec (.zcm later true d h) t = .next u ∧ u.tipRemoved = false)

/-- R232 `AdcTimeout`: the operation does exactly what a sample above the threshold does, whatever the sample field holds
(that a time-out reaches JBC-CC as `adc_ok` = 0 is the spec's decision D12). -/
def Obligations.AdcTimeoutActsAsSensorRange : Prop :=
  ∀ (s : State) (sample high : Nat) (disc holder : Bool), 3500 < high →
    exec (.zcm sample false disc holder) s = exec (.zcm high true disc holder) s

/-- R234 `Disconnected` (that the level alone forces the output off is the spec's decision D17): `ironDisconnected` is
recorded in STATUS bit 3 and the enable and both duties are 0, after a control law that ran: with the level at 0 the same
evaluation leaves the same temperatures and the same control-law elements. The next evaluation with the level at 0
clears it. -/
def Obligations.DisconnectionForcesOutputOff : Prop :=
  ∀ (s : State) (sample : Nat) (adcOk holder : Bool), s.slot = 0 →
    ∃ t u, exec (.zcm sample adcOk true holder) s = .next t ∧ exec (.zcm sample adcOk false holder) s = .next u
      ∧ t.ironDisconnected = true ∧ (hostRead .status t).getLsbD 3 = true
      ∧ t.outputEnabled = false ∧ t.outputDuty = 0 ∧ t.outputDutyFiltered = 0 ∧ t.pin = false
      ∧ t.measuredTemperature = u.measuredTemperature ∧ t.filteredTemperature = u.filteredTemperature
      ∧ t.error0 = u.error0 ∧ t.error1 = u.error1 ∧ t.integral = u.integral ∧ t.derivative = u.derivative
      ∧ t.hystOn = u.hystOn ∧ t.warmup = u.warmup
      ∧ ∀ (later : Nat) (ok h : Bool), ∃ v, exec (.zcm later ok false h) t = .next v ∧ v.ironDisconnected = false

/-- R233, R135 (the exact form of the test is the spec's decision D38): an evaluation whose acquisition completes finds a
runaway exactly when ten times the new filtered temperature is above eleven times the setpoint, whatever it was before;
a runaway is recorded in STATUS bit 5, the output is disabled and the pin stays 0 for the whole following cycle. -/
def Obligations.RunawaySuppressesOneCycle : Prop :=
  ∀ (s : State) (sample : Nat) (disc holder : Bool), s.slot = 0 → sample ≤ 3500 →
    ∃ t, exec (.zcm sample true disc holder) s = .next t
      ∧ (t.runaway = true ↔ 10 * t.filteredTemperature > 11 * (s.setpoint : Int))
      ∧ (hostRead .status t).getLsbD 5 = t.runaway
      ∧ (t.runaway = true → t.outputEnabled = false ∧ ∀ u ∈ visited (slotPairs 10 ++ [.zcd]) t, u.pin = false)

/-- R230, R238: the flags an evaluation leaves are exactly the conditions it met (the time-out as `adc_ok` = 0 is the
spec's decision D12, the disconnection D18, the strict runaway test D38), so the acquisition failure excludes the runaway;
and the code of a condition is the number of the STATUS bit that shows its flag (the bit numbers are decision D39). -/
def Obligations.ConditionsAndTheirRecord : Prop :=
  (∀ (s : State) (sample : Nat) (adcOk disc holder : Bool), s.slot = 0 →
      ∃ t, exec (.zcm sample adcOk disc holder) s = .next t
        ∧ (t.tipRemoved = true ↔ adcOk = false ∨ 3500 < sample)
        ∧ (t.runaway = true ↔
            adcOk = true ∧ sample ≤ 3500 ∧ 10 * t.filteredTemperature > 11 * (s.setpoint : Int))
        ∧ t.ironDisconnected = disc ∧ t.ironInHolder = holder
        ∧ ¬ (t.tipRemoved = true ∧ t.runaway = true))
    ∧ ∀ (c : Condition) (s : State), (hostRead .status s).getLsbD c.statusBit = c.flag s

/-! ### The evaluation -/

/-- `ACQUIRE` with what `SAFETY` makes of its result, by the states a `ZCM` in slot 0 starts from and leads to. A failed
acquisition, which a missing sample is (the spec's decision D12), records tip removal, disables the output (D17), and holds
the temperatures and the counter: the hold is the spec's decision D13, which the model follows (assumption 13). A completed
one clears the flag (D14), converts, filters, rounds to 5 (its tie rule is D9), tests for a runaway (its strict form is D38)
and counts the warm-up (D15); what it returns is the new enable where no safety flag stands (D16). -/
def Obligations.AcquisitionProcedure : Prop :=
  ∀ (s : State) (sample : Nat) (adcOk disc holder : Bool), s.slot = 0 →
    ∃ t, exec (.zcm sample adcOk disc holder) s = .next t
      ∧ (adcOk = false ∨ 3500 < sample →
          t.tipRemoved = true ∧ t.runaway = false ∧ t.measuredTemperature = s.measuredTemperature
            ∧ t.filteredTemperature = s.filteredTemperature ∧ t.warmup = s.warmup ∧ t.outputEnabled = false)
      ∧ (adcOk = true ∧ sample ≤ 3500 →
          t.tipRemoved = false
            ∧ t.measuredTemperature = s.cfg.rnd (sample * s.cfg.vMult / s.cfg.seebeck + s.cfg.tAmbient)
            ∧ t.filteredTemperature
              = 5 * ⌊s.cfg.rnd (3 / 5 * t.measuredTemperature + 2 / 5 * s.filteredTemperature) / 5 + 1 / 2⌋
            ∧ t.runaway = decide (10 * t.filteredTemperature > 11 * (s.setpoint : Int))
            ∧ t.warmup.val = min (s.warmup.val + 1) 3
            ∧ (disc = false → t.outputEnabled = (decide (s.warmup.val = 3) && !t.runaway)))

/-- R138(b) and (c) (the tie rule of the rounding is the spec's decision D9): after a completed acquisition the filtered
temperature is a multiple of 5, and with exact arithmetic it is within (3/5)·|T - prev| + 5/2 of the one before. -/
def Obligations.FilterStepBounded : Prop :=
  ∀ (s : State) (sample : Nat) (disc holder : Bool), s.slot = 0 → sample ≤ 3500 →
    ∃ t, exec (.zcm sample true disc holder) s = .next t
      ∧ 5 ∣ t.filteredTemperature
      ∧ (s.cfg.rounding = .identity →
          |(t.filteredTemperature : Rat) - s.filteredTemperature|
            ≤ 3 / 5 * |t.measuredTemperature - s.filteredTemperature| + 5 / 2)

/-- R150 with R152 and R156, the whole of `CONTROL_PID`, by an evaluation under the PID policy: the error history, the
clamped integral, the derivative, and where no safety flag forces it the duty, all from the filtered temperature of the
same evaluation. -/
def Obligations.PidProcedure : Prop :=
  ∀ (s : State) (sample : Nat) (disc holder : Bool), s.slot = 0 → s.cfg.policy = .pid → sample ≤ 3500 →
    ∃ t, exec (.zcm sample true disc holder) s = .next t
      ∧ t.error0 = (s.setpoint : Rat) - t.filteredTemperature
      ∧ t.error1 = s.error0 ∧ t.error2 = s.error2 ∧ t.hystOn = s.hystOn
      ∧ t.integral = s.cfg.rnd (max (-100) (min 100 (s.integral + t.error0 * s.cfg.ts)))
      ∧ t.derivative = s.cfg.rnd ((t.error0 - t.error1) / s.cfg.ts)
      ∧ (disc = false →
          (t.outputDuty : Int) = 10 * ⌊max 0 (min 100 (s.cfg.rnd
            ((s.kp100.toNat : Rat) / 100 * t.error0 + (s.ki100.toNat : Rat) / 100 * t.integral
              + (s.kd100.toNat : Rat) / 100 * t.derivative + s.cfg.bias))) / 10⌋)

/-- R153: an evaluation under the PID policy adds the error times the sample period to the integral and clamps the sum,
`NUM.rnd` applied after the clamp; and the integral never leaves [-100, 100], for any sequence of operations and any
number of them, when `NUM.rnd` maps that range into itself. -/
def Obligations.IntegralStaysClamped : Prop :=
  (∀ (s : State) (sample : Nat) (disc holder : Bool), s.slot = 0 → s.cfg.policy = .pid → sample ≤ 3500 →
    ∃ t, exec (.zcm sample true disc holder) s = .next t
      ∧ t.integral = s.cfg.rnd (max (-100) (min 100
          (s.integral + ((s.setpoint : Rat) - t.filteredTemperature) * s.cfg.ts))))
    ∧ ∀ (ops : List Instr) (s : State), RndKeepsClamp s.cfg → -100 ≤ s.integral → s.integral ≤ 100 →
      ∀ t ∈ visited ops s, -100 ≤ t.integral ∧ t.integral ≤ 100

/-- R158, the whole of `CONTROL_HYST`, by an evaluation under the hysteresis policy: both thresholds inclusive, the
memory held between them, the duty 100 or 0 where no safety flag forces it, and the PID elements held. -/
def Obligations.HysteresisProcedure : Prop :=
  ∀ (s : State) (sample : Nat) (disc holder : Bool), s.slot = 0 → s.cfg.policy = .hyst → sample ≤ 3500 →
    ∃ t, exec (.zcm sample true disc holder) s = .next t
      ∧ (t.filteredTemperature ≤ (s.setpoint : Int) - 5 → t.hystOn = true)
      ∧ (t.filteredTemperature ≥ (s.setpoint : Int) + 5 → t.hystOn = false)
      ∧ ((s.setpoint : Int) - 5 < t.filteredTemperature → t.filteredTemperature < (s.setpoint : Int) + 5 →
          t.hystOn = s.hystOn)
      ∧ (disc = false → t.outputDuty = if t.hystOn then 100 else 0)
      ∧ t.error0 = s.error0 ∧ t.error1 = s.error1 ∧ t.error2 = s.error2
      ∧ t.integral = s.integral ∧ t.derivative = s.derivative

/-- R160 (that it runs under both policies is the spec's decision D20): where no safety flag forces it, the filtered duty
of an evaluation is half the sum of the new duty and the old filtered duty, floored to a multiple of 10. -/
def Obligations.OutputFilterStep : Prop :=
  ∀ (s : State) (sample : Nat) (holder : Bool), s.slot = 0 → sample ≤ 3500 →
    ∃ t, exec (.zcm sample true false holder) s = .next t
      ∧ (t.outputDutyFiltered : Int)
        = 10 * ⌊(1 / 2 * (t.outputDuty : Rat) + 1 / 2 * (s.outputDutyFiltered : Rat)) / 10⌋

/-- R161: for a held duty the output filter, started below it, stops one step short of it, and, started at it or above,
reaches it; four steps are enough for every pair of duties. -/
def Obligations.OutputFilterSettles : Prop :=
  ∀ duty start : Nat, DutyLegal duty → DutyLegal start → ∀ n : Nat, 4 ≤ n →
    (filterDuty duty)^[n] start = if start < duty then duty - 10 else duty

/-- R117 (the spec's decision D16): after an evaluation the output is enabled exactly when the acquisition completed, the
iron is connected, no runaway was found and the warm-up was over before. -/
def Obligations.OutputEnabledExactlyWhen : Prop :=
  ∀ (s : State) (sample : Nat) (adcOk disc holder : Bool), s.slot = 0 →
    ∃ t, exec (.zcm sample adcOk disc holder) s = .next t
      ∧ (t.outputEnabled = true ↔
          adcOk = true ∧ sample ≤ 3500 ∧ disc = false
            ∧ 10 * t.filteredTemperature ≤ 11 * (s.setpoint : Int) ∧ s.warmup.val = 3)

/-- The frame of an evaluation (R111, R54; the spec's decisions D3, D37): whatever its operands, a `ZCM` in slot 0 leaves the
slot, `error[2]` (D33) and every element of the mode machine, the tick unit and the host as they were; its pin is 0, and it
pulses the ADC start and no other output (R104; the field for the outputs is assumption 2). That it also leaves the trace
and the configuration as they were is said of the model's own fields (assumptions 1 and 3). -/
def Obligations.EvaluationFrame : Prop :=
  ∀ (s : State) (sample : Nat) (adcOk disc holder : Bool), s.slot = 0 →
    ∃ t, exec (.zcm sample adcOk disc holder) s = .next t
      ∧ t.slot = 0 ∧ t.pin = false ∧ t.out = { adcStart := true } ∧ t.error2 = s.error2
      ∧ SameMode s t ∧ SameTicker s t ∧ SameHost s t ∧ t.holdPeriods = s.holdPeriods
      ∧ t.trace = s.trace ∧ t.config = s.config

/-! ### The sequencer over many edges -/

/-- R120: after an evaluation left a legal duty, the n-th slot of the cycle has the pin ON exactly when the output is
enabled and n is at most a tenth of the duty, at both of its edges, so the heater is ON in that many whole slots. -/
def Obligations.DutyPatternOverACycle : Prop :=
  ∀ s : State, s.slot = 0 → DutyLegal s.outputDuty →
    (∀ n : Nat, 1 ≤ n → n ≤ 10 →
      ∃ t u, runOps (slotPairs (n - 1) ++ [.zcd]) s = .next t ∧ runOps (slotPairs n) s = .next u
        ∧ t.slot.val = n ∧ u.slot.val = n
        ∧ t.pin = (s.outputEnabled && decide (n ≤ s.outputDuty / 10)) ∧ u.pin = t.pin)
    ∧ (visited (slotPairs 10) s).countP (·.pin) = if s.outputEnabled then 2 * (s.outputDuty / 10) else 0

/-- R119, under the premise that edges alternate (that a cycle is eleven pairs of edges is the spec's decisions D3, D4 and
D6). Twenty-two alternating edges, beginning with either, from any slot and with any operations but a reset between them,
hold exactly one evaluation; it happens in slot 0 with the pin OFF, and they end in the slot they began in. Where a drive
edge comes first in the last slot of a cycle, the evaluation is the first measurement edge, before every other pin decision
of the cycle. -/
def Obligations.OneEvaluationPerSequencerCycle : Prop :=
  (∀ (s : State) (ops : List Instr),
      Alternating ops → .rst ∉ ops → (ops.filter isEdge).length = 22 →
      (visited ops s).countP (·.out.adcStart) = 1
        ∧ (∀ t ∈ visited ops s, t.out.adcStart = true → t.slot = 0 ∧ t.pin = false)
        ∧ ∃ t, runOps ops s = .next t ∧ t.slot = s.slot)
    ∧ ∀ (s : State) (entries : List (Nat × Bool × Bool × Bool)), entries.length = 11 →
      (visited (edgePairs entries) s).countP (·.out.adcStart) = 1
        ∧ (∀ t ∈ visited (edgePairs entries) s, t.out.adcStart = true → t.slot = 0 ∧ t.pin = false)
        ∧ (s.slot = 10 → ((visited (edgePairs entries) s)[1]?).map (·.out.adcStart) = some true)
        ∧ ∃ t, runOps (edgePairs entries) s = .next t ∧ t.slot = s.slot

/-- R118 (the spec's decisions D3 and D37) and R104: only a `ZCM` in slot 0 starts a conversion, and in every state the
invariant allows the pin is OFF before it and after it. -/
def Obligations.NeverSamplingWhileDriving : Prop :=
  ∀ (i : Instr) (s t : State), Inv s → exec i s = .next t → t.out.adcStart = true →
    evaluates i s = true ∧ s.slot = 0 ∧ s.pin = false ∧ t.pin = false

/-- R104, R122 (the ports are the spec's decision D1, the hold with no edge its decision D36): after any operation the port
`heater` is the pin, and the pin keeps its level through every operation that is neither an edge nor a reset. -/
def Obligations.HeaterChangesOnlyAtEdgesAndReset : Prop :=
  ∀ (i : Instr) (s : State),
    ∃ t, exec i s = .next t ∧ (outputPorts t).heater = t.pin
      ∧ (isEdge i = false → i ≠ .rst → t.pin = s.pin)

/-- R117, R113: while no evaluation happens, an output that is disabled with its pin OFF stays OFF, whatever the
operations and their order. -/
def Obligations.HeaterStaysOffUntilAnEvaluation : Prop :=
  ∀ (ops : List Instr) (s : State), s.outputEnabled = false → s.pin = false →
    (∀ t ∈ visited ops s, t.out.adcStart = false) → ∀ t ∈ visited ops s, t.pin = false ∧ t.outputEnabled = false

/-- R262, its warm-up part (what counts is the spec's decision D15, the reset values its decision D26): from reset, under any
admissible configuration, no trace switches the heater on before four acquisitions completed. The fields the trace and the
configuration stand in are assumptions 1 and 3. -/
def Obligations.FourAcquisitionsBeforeFirstDrive : Prop :=
  ∀ (c : Config) (tr : List Word) (n : Nat) (t : State),
    let s : State := { State.reset with config := c, trace := tr }
    Host.Core.run Sys2Proof.core n s = .next t → t.pin = true → 4 ≤ acquisitions n s

/-- The step behind it (decisions D15 and D16; the trace is assumption 1): from every state whose warm-up counter is at most
the number n of acquisitions completed so far, whose output is enabled only with four of them and whose pin is ON only with
the output enabled, a step leads to a state of which the same holds with n or, where it completes an acquisition, n + 1. -/
def Obligations.StepKeepsWarmupHistory : Prop :=
  ∀ (n : Nat) (s t : State), WarmupHistory n s → step s = .next t →
    WarmupHistory (n + if nextAcquires s then 1 else 0) t

/-- R262, its setpoint part, as a step: with a calibration under which no accepted sample converts to less than 25/6 °C, a
heater that is off for want of a setpoint stays so in every step that leaves the setpoint 0, and no step at all turns it on.
That premise is the model's, R262 does not write it (assumption 11). -/
def Obligations.StepKeepsOffWithoutSetpoint : Prop :=
  ∀ s t : State, WarmCalibration s.cfg → OffWithoutSetpoint s → step s = .next t →
    t.pin = false ∧ (t.setpoint = 0 → OffWithoutSetpoint t)

/-- R262, its other parts: from reset, under any admissible configuration, a heater that is on has the output enabled, a duty
of at least 10, a slot that a `ZCD` opened (1 or later) and no flag; and an earlier state of the run had a non-zero setpoint,
which only a refresh writes, or else the filtered temperature is at most 0 (the case that the reason R262 gives, "any filtered
temperature above 0 is a runaway", leaves out). With a calibration under which no accepted sample converts to less than
25/6 °C that case does not occur. That premise is the model's, R262 does not write it, and neither does it write the case
(assumption 11); the reset values are the spec's decision D26, the fields the trace and the configuration stand in are
assumptions 1 and 3. -/
def Obligations.FirstDriveAfterReset : Prop :=
  ∀ (c : Config) (tr : List Word) (n : Nat) (t : State),
    let s : State := { State.reset with config := c, trace := tr }
    Host.Core.run Sys2Proof.core n s = .next t → t.pin = true →
      (t.outputEnabled = true ∧ 10 ≤ t.outputDuty ∧ 1 ≤ t.slot.val ∧ t.tipRemoved = false
        ∧ t.ironDisconnected = false ∧ t.runaway = false)
      ∧ ((∃ k u, k < n ∧ Host.Core.run Sys2Proof.core k s = .next u ∧ State.setpoint u ≠ 0)
          ∨ t.filteredTemperature ≤ 0)
      ∧ (WarmCalibration c.cfg →
          ∃ k u, k < n ∧ Host.Core.run Sys2Proof.core k s = .next u ∧ State.setpoint u ≠ 0)

/-- R106 (the pseudo-operations are the spec's decision D1): from slot 0, `CYCLE` performs one evaluation and the ten
drive slots that follow, and ends in slot 0 with the pin OFF and everything else as the evaluation left it. -/
def Obligations.CyclePseudoOperation : Prop :=
  ∀ (s : State) (sample : Nat) (adcOk disc holder : Bool), s.slot = 0 →
    ∃ t, exec (.zcm sample adcOk disc holder) s = .next t
      ∧ runOps (cycle sample adcOk disc holder) s = .next { t with slot := 0, pin := false, out := {} }
      ∧ (visited (cycle sample adcOk disc holder) s).countP (·.out.adcStart) = 1

/-! ### The mode state machine -/

/-- R180, the whole of `RFR`, with its parts written out: saturation and write-back, raw setpoint, change detection, the
effective setpoint, the mode in its priority, and the display snapshot. Nothing else changes. -/
def Obligations.RefreshProcedure : Prop :=
  ∀ (s : State) (enc : Int) (holder disc : Bool),
    let cs : Int := max 0 (min enc 4500)
    let raw : Nat := cs.toNat / 10
    let hold : Nat := if raw = s.backupSetpoint then s.holdPeriods else s.cfg.blinkHoldPeriods
    let mode : Mode :=
      if s.tipRemoved then .faultRemoved else if disc then .faultDisconnected
      else if holder then .holderSleep else .active
    exec (.rfr enc holder disc) s = .next
      { s with
        out := { encWr := if cs = enc then none else some (BitVec.ofInt 16 cs) }
        holdPeriods := hold
        backupSetpoint := raw
        setpoint := if holder then min raw 150 else raw
        modeState := mode
        dispSetpoint := if mode = .holderSleep ∧ hold = 0 then min raw 150 else raw
        dispTemp := s.filteredTemperature
        dispDuty := if mode = .faultRemoved ∨ mode = .faultDisconnected then 0 else s.outputDutyFiltered }

/-- R190: the mode after a refresh is a function of three inputs in their priority, so it does not depend on the mode
before, and every mode can follow every mode. -/
def Obligations.ModeIsAFunctionOfItsInputs : Prop :=
  ∀ (s : State) (enc : Int) (holder disc : Bool),
    ∃ t, exec (.rfr enc holder disc) s = .next t
      ∧ (s.tipRemoved = true → t.modeState = .faultRemoved)
      ∧ (s.tipRemoved = false → disc = true → t.modeState = .faultDisconnected)
      ∧ (s.tipRemoved = false → disc = false → holder = true → t.modeState = .holderSleep)
      ∧ (s.tipRemoved = false → disc = false → holder = false → t.modeState = .active)
      ∧ ∀ before : Mode, exec (.rfr enc holder disc) { s with modeState := before } = .next t

/-- R183, R184 (the clamp values and the signed reading are the spec's decision D22): an encoder value above 4500 is
written back as 4500 and one below 0 as 0, one in the range is not written back, and the raw setpoint is its whole
degrees, between 0 and 450. -/
def Obligations.EncoderSaturationAndWriteBack : Prop :=
  ∀ (s : State) (enc : Int) (holder disc : Bool),
    ∃ t, exec (.rfr enc holder disc) s = .next t
      ∧ t.backupSetpoint ≤ 450
      ∧ (4500 < enc → t.backupSetpoint = 450 ∧ (outputPorts t).encWr = some 4500)
      ∧ (enc < 0 → t.backupSetpoint = 0 ∧ (outputPorts t).encWr = some 0)
      ∧ (0 ≤ enc → enc ≤ 4500 →
          (outputPorts t).encWr = none ∧ 10 * (t.backupSetpoint : Int) ≤ enc ∧ enc < 10 * (t.backupSetpoint : Int) + 10)

/-- R198: the properties the source states of a refresh: the effective setpoint in the holder, the scenario with a raw
setpoint of 400, and the order of the two setpoints. -/
def Obligations.SetpointProperties : Prop :=
  ∀ (s : State) (enc : Int) (holder disc : Bool),
    ∃ t, exec (.rfr enc holder disc) s = .next t
      ∧ (holder = true → t.setpoint = min t.backupSetpoint 150)
      ∧ t.setpoint ≤ t.backupSetpoint ∧ t.backupSetpoint ≤ 450
      ∧ (holder = false → disc = false → s.tipRemoved = false → enc = 4000 →
          t.modeState = .active ∧ t.setpoint = 400 ∧ t.dispSetpoint = 400)

/-! ### The tick unit -/

/-- `TICK` (R211; the free-running period and the phase are the spec's decision D24, the width of the clock its decision
D30): the clock counts modulo 2^32; at a boundary the blink timer restarts, the phase toggles and a running hold loses
one period. Nothing else changes. -/
def Obligations.TickFullEffect : Prop :=
  ∀ s : State,
    (s.blinkMs + 1 = s.cfg.blinkPeriodMs →
      exec .tick s = .next
        { s with
          out := {}, msClock := BitVec.ofNat 32 (s.msClock.toNat + 1), blinkMs := 0, blinkPhase := !s.blinkPhase
          holdPeriods := s.holdPeriods - 1 })
    ∧ (s.blinkMs + 1 ≠ s.cfg.blinkPeriodMs →
      exec .tick s = .next
        { s with out := {}, msClock := BitVec.ofNat 32 (s.msClock.toNat + 1), blinkMs := s.blinkMs + 1 })

/-- R212: what any number of ticks does, in closed form: the clock counts them, the blink timer counts them modulo the
period, the phase toggles and the hold falls once for each boundary passed. -/
def Obligations.ManyTicks : Prop :=
  ∀ (n : Nat) (s : State), s.blinkMs < s.cfg.blinkPeriodMs →
    runOps (ticks n) s = .next
      { s with
        out := if n = 0 then s.out else {}
        msClock := BitVec.ofNat 32 (s.msClock.toNat + n)
        blinkMs := (s.blinkMs + n) % s.cfg.blinkPeriodMs
        blinkPhase := s.blinkPhase ^^ decide ((s.blinkMs + n) / s.cfg.blinkPeriodMs % 2 = 1)
        holdPeriods := s.holdPeriods - (s.blinkMs + n) / s.cfg.blinkPeriodMs }

/-- R197: after a refresh that saw a change the hold runs for more than (H - 1) periods and at most H periods of ticks:
it still runs after n ticks exactly while the ticks since the boundary before the change are fewer than H periods. -/
def Obligations.HoldLastsItsPeriods : Prop :=
  ∀ (s : State) (enc : Int) (holder disc : Bool) (n : Nat),
    s.blinkMs < s.cfg.blinkPeriodMs → rawSetpoint enc ≠ s.backupSetpoint →
    ∃ t, runOps (.rfr enc holder disc :: ticks n) s = .next t
      ∧ (recentlyChanged t.holdPeriods = true ↔ s.blinkMs + n < s.cfg.blinkHoldPeriods * s.cfg.blinkPeriodMs)
      ∧ (n + s.cfg.blinkPeriodMs ≤ s.cfg.blinkHoldPeriods * s.cfg.blinkPeriodMs → recentlyChanged t.holdPeriods = true)
      ∧ (s.cfg.blinkHoldPeriods * s.cfg.blinkPeriodMs ≤ n → recentlyChanged t.holdPeriods = false)

/-- R276: reading the high half, the low half and the high half again gives the clock as it stood at the middle read when
the two high readings agree, for any ticks in between short of one turn of the high half. -/
def Obligations.ClockReadTwice : Prop :=
  ∀ (s t u : State) (a b : Nat), a + b ≤ 2 ^ 32 - 2 ^ 16 →
    runOps (ticks a) s = .next t → runOps (ticks b) t = .next u →
    hostRead .msclkHi s = hostRead .msclkHi u →
      (hostRead .msclkHi s).toNat * 2 ^ 16 + (hostRead .msclkLo t).toNat = t.msClock.toNat

/-! ### The host register space -/

/-- `WRG` (R213, R214; the spec's decision D28): a write to a gain register replaces it by the 16 data bits, whatever
they are, a write to another register changes nothing, and in both cases nothing else changes. -/
def Obligations.HostWriteFullEffect : Prop :=
  ∀ (s : State) (data : Half),
    exec (.wrg .kp100 data) s = .next { s with kp100 := data, out := {} }
    ∧ exec (.wrg .ki100 data) s = .next { s with ki100 := data, out := {} }
    ∧ exec (.wrg .kd100 data) s = .next { s with kd100 := data, out := {} }
    ∧ ∀ reg : HostReg, 3 ≤ reg.number.toNat → exec (.wrg reg data) s = .next { s with out := {} }

/-- `RDS` (R215, R64; the register map is the spec's decision D21): the read view appears on `h_rdata` and no element of
the state changes; a gain that was written is read back as it was written. -/
def Obligations.HostReadFullEffect : Prop :=
  (∀ (s : State) (reg : HostReg),
      exec (.rds reg) s = .next { s with out := { hRdata := some (hostRead reg s) } })
    ∧ ∀ (s : State) (reg : HostReg) (data : Half), reg.number.toNat < 3 →
      ∃ t, runOps [.wrg reg data, .rds reg] s = .next t ∧ (outputPorts t).hRdata = some data

/-- R95, R96, R97 (the register map is the spec's decision D21, the flags shown its decision D39): in every state the
invariant allows, each of the sixteen read views shows its element exactly; `STATUS` is the sum of its fields at their
places. The two signed views are the integer modulo 2^16 in any case, and the integer itself under the identity rounding:
that premise is the model's (assumption 14), R97 does not write it. -/
def Obligations.HostViewsAreExact : Prop :=
  ∀ s : State, Inv s →
    hostRead .kp100 s = s.kp100 ∧ hostRead .ki100 s = s.ki100 ∧ hostRead .kd100 s = s.kd100
    ∧ (hostRead .slot s).toNat = s.slot.val
    ∧ (hostRead .status s).toNat
      = s.pin.toNat + 2 * s.outputEnabled.toNat + 4 * s.tipRemoved.toNat + 8 * s.ironDisconnected.toNat
        + 16 * s.ironInHolder.toNat + 32 * s.runaway.toNat + 64 * s.hystOn.toNat + 128 * s.blinkPhase.toNat
        + 256 * s.warmup.val + 1024 * s.modeState.code.toNat + 4096 * (decide (0 < s.holdPeriods)).toNat
    ∧ (hostRead .outDuty s).toNat = s.outputDuty ∧ (hostRead .outDutyF s).toNat = s.outputDutyFiltered
    ∧ (hostRead .setpoint s).toNat = s.setpoint ∧ (hostRead .backupSp s).toNat = s.backupSetpoint
    ∧ (hostRead .dispSp s).toNat = s.dispSetpoint ∧ (hostRead .dispDuty s).toNat = s.dispDuty
    ∧ (hostRead .holdPer s).toNat = s.holdPeriods
    ∧ hostRead .msclkHi s ++ hostRead .msclkLo s = s.msClock
    ∧ (hostRead .tFilt s).toInt = s.filteredTemperature.bmod (2 ^ 16)
    ∧ (hostRead .dispTemp s).toInt = s.dispTemp.bmod (2 ^ 16)
    ∧ (s.cfg.rounding = .identity →
        (hostRead .tFilt s).toInt = s.filteredTemperature ∧ (hostRead .dispTemp s).toInt = s.dispTemp)

/-- R96, R98: every bit of `STATUS` is the view of its element, and bits 15 to 13 read 0 (the bit places are the spec's
decision D21). -/
def Obligations.StatusBits : Prop :=
  ∀ s : State,
    let w := hostRead .status s
    w.getLsbD 0 = s.pin ∧ w.getLsbD 1 = s.outputEnabled ∧ w.getLsbD 2 = s.tipRemoved
    ∧ w.getLsbD 3 = s.ironDisconnected ∧ w.getLsbD 4 = s.ironInHolder ∧ w.getLsbD 5 = s.runaway
    ∧ w.getLsbD 6 = s.hystOn ∧ w.getLsbD 7 = s.blinkPhase
    ∧ (w.extractLsb' 8 2).toNat = s.warmup.val
    ∧ w.extractLsb' 10 2 = (match s.modeState with
        | .active => 0#2 | .holderSleep => 1#2 | .faultRemoved => 2#2 | .faultDisconnected => 3#2)
    ∧ w.getLsbD 12 = decide (0 < s.holdPeriods)
    ∧ w.extractLsb' 13 3 = 0#3

/-! ### Reset and the configuration -/

/-- `RST` (R260, R56; the reset values other than the gains and the warm-up are the spec's decision D26, that a reset is an
operation its decision D32): every element takes its reset value from any state, and the ports `heater`, `enc_wr` and
`adc_start` are 0. The model's own fields: the outputs stand in the state (assumption 2), a port that is not pulsed carries
nothing, `h_rdata` among them, which R260 does not name (assumption 8), and the events still to come and the configuration
are not touched (assumptions 1 and 3). -/
def Obligations.ResetFullEffect : Prop :=
  ∀ s : State,
    exec .rst s = .next
      { slot := 0, pin := false, outputDuty := 0, outputDutyFiltered := 0, outputEnabled := false, warmup := 0
        hystOn := false, measuredTemperature := 0, filteredTemperature := 0, error0 := 0, error1 := 0, error2 := 0
        integral := 0, derivative := 0, tipRemoved := false, ironDisconnected := false, ironInHolder := false
        runaway := false, blinkPhase := false, modeState := .active, setpoint := 0, backupSetpoint := 0
        holdPeriods := 0, dispSetpoint := 0, dispTemp := 0, dispDuty := 0, msClock := 0, blinkMs := 0
        kp100 := 170, ki100 := 15, kd100 := 50
        out := { adcStart := false, encWr := none, hRdata := none }, trace := s.trace, config := s.config }

/-- R95, last sentence, and R260: after a reset, from any state, registers 0, 1, 2 read 170, 15, 50 and every other
register reads 0 (the spec's decisions D21 and D26). -/
def Obligations.RegistersAfterReset : Prop :=
  ∀ (s : State) (reg : HostReg),
    ∃ t, runOps [.rst, .rds reg] s = .next t
      ∧ (outputPorts t).hRdata = some
        (if reg = .kp100 then 170 else if reg = .ki100 then 15 else if reg = .kd100 then 50 else 0)

/-- R268, R10: loading an inadmissible configuration is refused by name, loading an admissible one makes it the step's
parameter and changes nothing else. -/
def Obligations.InadmissibleConfigurationRefused : Prop :=
  ∀ (c : Cfg) (s : State),
    (¬ c.Admissible → configure c s = .refused .inadmissibleConfig)
    ∧ (c.Admissible → ∃ t, configure c s = .next t ∧ t.cfg = c ∧ t = { s with config := t.config })

/-- R58: no operation changes the configuration, and a step takes at most the event word in front from the trace (the two
fields are assumptions 3 and 1). -/
def Obligations.ConfigurationNeverChanges : Prop :=
  ∀ s t : State, step s = .next t → t.config = s.config ∧ t.trace = s.trace.tail

/-! ### The invariant -/

/-- The invariant holds right after reset, under every admissible configuration and whatever events are to come (the reset
values are the spec's decision D26, the two fields assumptions 3 and 1). -/
def Obligations.InvariantAtReset : Prop :=
  ∀ (c : Config) (tr : List Word), Inv { State.reset with config := c, trace := tr }

/-- Every step keeps the invariant, from every state that has it (R55, R268: for every trace and every admissible
configuration; the range of the integral under the premise of assumption 5, the ranges of the temperatures under the
identity rounding, assumption 14). -/
def Obligations.StepKeepsInvariant : Prop := ∀ s t : State, Inv s → step s = .next t → Inv t

/-- The invariant gives each of the invariants that R55 lists, (a) under the premise that `NUM.rnd` maps [-100, 100] into
itself: R55(a) does not write that premise, the model takes it from R153 (assumption 5). -/
def Obligations.InvariantGivesSafeState : Prop := ∀ s : State, Inv s → SafeState s

/-! ### Agents and ordering -/

/-- R54: every element has the writers the ownership table names: an operation of one agent leaves the elements of the
other agents as they were, and `holdPeriods` is written by a refresh and a tick only. -/
def Obligations.WriteOwnership : Prop :=
  ∀ (i : Instr) (s t : State), i ≠ .rst → exec i s = .next t →
    (agentOf i ≠ some .seq → SameSeq s t) ∧ (agentOf i ≠ some .mode → SameMode s t)
    ∧ (agentOf i ≠ some .ticker → SameTicker s t) ∧ (agentOf i ≠ some .host → SameHost s t)
    ∧ (agentOf i ≠ some .mode → agentOf i ≠ some .ticker → t.holdPeriods = s.holdPeriods)

/-- R30, R32, R34, R51 (the spec's decisions D13, D30, D33): the measured temperature, the derivative, `error[2]` and the
millisecond clock influence nothing but a read of the clock: from two states that differ in nothing else, every operation
leads to states that differ in nothing else, with the same outputs where it is no read of register 14 or 15. -/
def Obligations.UnreadElements : Prop :=
  ∀ (i : Instr) (s s' t t' : State), withoutUnread s = withoutUnread s' →
    exec i s = .next t → exec i s' = .next t' →
      withoutUnread t = withoutUnread t' ∧ (i ≠ .rds .msclkLo → i ≠ .rds .msclkHi → t.out = t'.out)

/-- R66, R68, R237: a tick and an operation of the sequencer or of the host can be taken in either order: the states they
lead to differ in nothing but the outputs of the operation that came last. -/
def Obligations.TickCommutesWithSequencerAndHost : Prop :=
  ∀ (i : Instr) (s : State), agentOf i = some .seq ∨ agentOf i = some .host →
    ∃ t u, runOps [i, .tick] s = .next t ∧ runOps [.tick, i] s = .next u ∧ withoutOutputs t = withoutOutputs u

/-- R6, R18: running the event words of a list of operations, step by step, is executing the operations in order (that the
trace stands in the state is assumption 1). -/
def Obligations.TraceRunIsOperationRun : Prop :=
  ∀ (ops : List Instr) (s : State), (∀ i ∈ ops, i.WellFormed) →
    Host.Core.run Sys2Proof.core ops.length ({ s with trace := ops.map encode } : State)
      = runOps ops { s with trace := [] }

/-- R81, R110, R121: an edge detector on one input cannot produce two edges of the same direction in a row: in every
allowed order of the events that the ports present, with no reset among them, the edges alternate, whichever direction
`ZC_MEAS_EDGE` is. The reading of the ports, sampled at successive instants from a given level of `zc` on, is the model's
(assumption 16); the orders are the spec's decision D27. Instants with a reset are left out, because an edge presented
with one may be lost (assumption 6). -/
def Obligations.PortEdgesAlternate : Prop :=
  ∀ (e : Edge) (before : Bool) (inputs : List Inputs) (tr : List Instr),
    (∀ now ∈ inputs, now.rst = false) → LegalTrace (presentedAll e before inputs) tr → Alternating tr
end

