-- ==== Sys2Proof/Laws/Decode.lean ====
section
/-! SUPPORT. The fields of an event word as numbers, the register numbers, and the signed 16-bit field. -/

namespace Sys2Proof.Laws

/-- A field of a word as a number (spec/00_scope.md R11). -/
theorem field_toNat (w : Word) (lo n : Nat) : (field w lo n).toNat = w.toNat / 2 ^ lo % 2 ^ n := by
  simp [field, BitVec.extractLsb'_toNat, Nat.shiftRight_eq_div_pow]

theorem ofNumber_number (r : HostReg) : HostReg.ofNumber r.number = r := by cases r <;> rfl

theorem number_ofNumber (n : BitVec 4) : (HostReg.ofNumber n).number = n := by revert n; decide

theorem sext16_eq_toInt (v : Half) : sext16 v = v.toInt := by
  unfold sext16
  rw [BitVec.toInt_eq_toNat_cond]
  split <;> split <;> omega

theorem sext16_mem (v : Half) : -32768 ≤ sext16 v ∧ sext16 v ≤ 32767 := by
  have := v.isLt
  unfold sext16
  split <;> omega

/-- The signed field gives back a value of its range. -/
theorem sext16_ofInt {x : Int} (h0 : -32768 ≤ x) (h1 : x ≤ 32767) : sext16 (BitVec.ofInt 16 x) = x := by
  rw [sext16_eq_toInt, BitVec.toInt_ofInt]
  simp only [Int.bmod]
  omega

theorem ofInt_sext16 (v : Half) : BitVec.ofInt 16 (sext16 v) = v := by
  rw [sext16_eq_toInt]; exact BitVec.ofInt_toInt

theorem ifZero_eq_ok {op : BitVec 4} {zero : Bool} {i j : Instr} :
    ifZero op zero i = .ok j ↔ zero = true ∧ i = j := by
  unfold ifZero
  cases zero <;> simp

end Sys2Proof.Laws
end

