-- ==== Sys2Proof/Laws/Numeric.lean ====
section
/-! SUPPORT. What the pure functions of spec/00_scope.md R13 compute: `clamp` as max and min, the error of `round5`, the
duties as whole numbers, the ranges of the setpoint mapper. -/

namespace Sys2Proof.Laws
open Sys2Proof.Machine

/-! ### The definitions with the constants of spec/00_scope.md R7 as numerals -/

theorem round5_eq (x : Rat) : round5 x = 5 * (x / 5 + 1 / 2).floor := rfl

theorem floor10_eq (x : Rat) : floor10 x = 10 * (x / 10).floor := rfl

theorem filterValue_eq (c : Cfg) (temperature : Rat) (previous : Int) :
    filterValue c temperature previous = c.rnd (3 / 5 * temperature + (1 - 3 / 5) * previous) := rfl

theorem quantiseDuty_eq (u : Rat) : quantiseDuty u = (floor10 (clamp u 0 100)).toNat := rfl

theorem saturateEncoder_eq (enc : Int) : saturateEncoder enc = max 0 (min enc 4500) := rfl

theorem rawSetpoint_eq (enc : Int) : rawSetpoint enc = (saturateEncoder enc).toNat / 10 := rfl

theorem reducedSetpoint_eq (raw : Nat) : reducedSetpoint raw = min raw 150 := rfl

/-! ### What they compute -/

/-- The floor of the model is the floor of the library. -/
theorem rat_floor_eq (x : Rat) : x.floor = ⌊x⌋ := rfl

theorem clamp_eq_max_min {lo hi : Rat} (h : lo ≤ hi) (x : Rat) : clamp x lo hi = max lo (min hi x) := by
  unfold clamp
  split
  · rw [max_eq_left]; exact le_trans (min_le_right _ _) (le_of_lt ‹_›)
  · split
    · rw [min_eq_left (le_of_lt ‹_›), max_eq_right h]
    · rw [min_eq_right (not_lt.mp ‹_›), max_eq_right (not_lt.mp ‹_›)]

/-- A clamped value is between its bounds. -/
theorem clamp_mem {lo hi : Rat} (h : lo ≤ hi) (x : Rat) : lo ≤ clamp x lo hi ∧ clamp x lo hi ≤ hi := by
  rw [clamp_eq_max_min h]
  exact ⟨le_max_left _ _, max_le h (min_le_left _ _)⟩

theorem round5_dvd (x : Rat) : 5 ∣ round5 x := Dvd.intro _ rfl

/-- The error of the rounding to 5 is at most 5/2, and a tie goes up. -/
theorem round5_error (x : Rat) : x - 5 / 2 < round5 x ∧ (round5 x : Rat) ≤ x + 5 / 2 := by
  have h1 := Rat.floor_le (x / (5 : Rat) + 1 / 2)
  have h2 := Rat.lt_floor_add_one (x / (5 : Rat) + 1 / 2)
  simp only [round5, Int.cast_mul, Int.cast_ofNat, Int.cast_add, Int.cast_one] at *
  constructor <;> linarith

/-- From 5/2 on the rounding to 5 is positive. -/
theorem round5_pos {x : Rat} (h : 5 / 2 ≤ x) : 0 < round5 x := by
  have h1 : (1 : Int) ≤ (x / 5 + 1 / 2).floor := Rat.le_floor_iff.2 (by push_cast; linarith)
  rw [round5_eq]
  omega

/-- `floor10` of a whole number. -/
theorem floor10_natCast (n : Nat) : floor10 n = ((10 * (n / 10) : Nat) : Int) := by
  have h : ((n : Rat) / 10).floor = ((n / 10 : Nat) : Int) := by
    exact Rat.floor_natCast_div_natCast n 10
  simp only [floor10, Nat.cast_ofNat, h]
  push_cast; ring

/-- The output filter in whole numbers: half of the sum, floored to a multiple of 10. -/
theorem filterDuty_eq (duty previous : Nat) : filterDuty duty previous = 10 * ((duty + previous) / 20) := by
  have h : (((duty + previous : Nat) : Rat) / (20 : Nat)).floor = (((duty + previous) / 20 : Nat) : Int) := by
    exact Rat.floor_natCast_div_natCast (duty + previous) 20
  have e : (Const.outFiltW * (duty : Rat) + Const.outFiltW * previous) / ((10 : Nat) : Rat)
      = ((duty + previous : Nat) : Rat) / (20 : Nat) := by
    push_cast; ring
  unfold filterDuty floor10
  rw [e, h]
  simp only [Const.dutyStep]
  omega

/-- A quantised control value is a legal duty. -/
theorem quantiseDuty_legal (u : Rat) : 10 ∣ quantiseDuty u ∧ quantiseDuty u ≤ 100 := by
  obtain ⟨h0, h1⟩ := clamp_mem (lo := 0) (hi := 100) (by norm_num) u
  have hf := Rat.floor_le (clamp u 0 100 / 10)
  have hn : 0 ≤ (clamp u 0 100 / 10).floor := Rat.le_floor_iff.2 (by push_cast; linarith)
  have hm : (clamp u 0 100 / 10).floor ≤ 10 := by
    have : (((clamp u 0 100 / 10).floor : Int) : Rat) ≤ 10 := by linarith
    exact_mod_cast this
  unfold quantiseDuty floor10
  simp only [Nat.cast_ofNat]
  generalize (clamp u 0 100 / 10).floor = k at hn hm
  obtain ⟨n, rfl⟩ := Int.eq_ofNat_of_zero_le hn
  constructor
  · exact ⟨n, by omega⟩
  · omega

/-- The filtered duty is legal when the two it is made of are at most 100. -/
theorem filterDuty_legal {duty previous : Nat} (hd : duty ≤ 100) (hp : previous ≤ 100) :
    10 ∣ filterDuty duty previous ∧ filterDuty duty previous ≤ 100 := by
  rw [filterDuty_eq]
  exact ⟨Dvd.intro _ rfl, by omega⟩

theorem saturateEncoder_mem (enc : Int) : 0 ≤ saturateEncoder enc ∧ saturateEncoder enc ≤ 4500 := by
  unfold saturateEncoder; constructor
  · exact le_max_left _ _
  · exact max_le (by decide) (min_le_right _ _)

theorem rawSetpoint_le (enc : Int) : rawSetpoint enc ≤ 450 := by
  have := saturateEncoder_mem enc
  rw [rawSetpoint_eq]
  omega

end Sys2Proof.Laws
end

