-- ==== Sys2Proof/Laws/State.lean ====
section
/-! SUPPORT. What each update of the state leaves as it was: one lemma for each field an update never writes, so that no
later proof unfolds a record update; and what it writes, where that is one expression. -/

namespace Sys2Proof.Laws
open Sys2Proof.Machine

/-! ### `beginOp` writes the outputs only -/

@[simp] theorem beginOp_out (s : State) : (beginOp s).out = {} := rfl
@[simp] theorem beginOp_slot (s : State) : (beginOp s).slot = s.slot := rfl
@[simp] theorem beginOp_pin (s : State) : (beginOp s).pin = s.pin := rfl
@[simp] theorem beginOp_outputDuty (s : State) : (beginOp s).outputDuty = s.outputDuty := rfl
@[simp] theorem beginOp_outputDutyFiltered (s : State) : (beginOp s).outputDutyFiltered = s.outputDutyFiltered := rfl
@[simp] theorem beginOp_outputEnabled (s : State) : (beginOp s).outputEnabled = s.outputEnabled := rfl
@[simp] theorem beginOp_warmup (s : State) : (beginOp s).warmup = s.warmup := rfl
@[simp] theorem beginOp_hystOn (s : State) : (beginOp s).hystOn = s.hystOn := rfl
@[simp] theorem beginOp_measuredTemperature (s : State) : (beginOp s).measuredTemperature = s.measuredTemperature := rfl
@[simp] theorem beginOp_filteredTemperature (s : State) : (beginOp s).filteredTemperature = s.filteredTemperature := rfl
@[simp] theorem beginOp_error0 (s : State) : (beginOp s).error0 = s.error0 := rfl
@[simp] theorem beginOp_error1 (s : State) : (beginOp s).error1 = s.error1 := rfl
@[simp] theorem beginOp_error2 (s : State) : (beginOp s).error2 = s.error2 := rfl
@[simp] theorem beginOp_integral (s : State) : (beginOp s).integral = s.integral := rfl
@[simp] theorem beginOp_derivative (s : State) : (beginOp s).derivative = s.derivative := rfl
@[simp] theorem beginOp_tipRemoved (s : State) : (beginOp s).tipRemoved = s.tipRemoved := rfl
@[simp] theorem beginOp_ironDisconnected (s : State) : (beginOp s).ironDisconnected = s.ironDisconnected := rfl
@[simp] theorem beginOp_ironInHolder (s : State) : (beginOp s).ironInHolder = s.ironInHolder := rfl
@[simp] theorem beginOp_runaway (s : State) : (beginOp s).runaway = s.runaway := rfl
@[simp] theorem beginOp_blinkPhase (s : State) : (beginOp s).blinkPhase = s.blinkPhase := rfl
@[simp] theorem beginOp_modeState (s : State) : (beginOp s).modeState = s.modeState := rfl
@[simp] theorem beginOp_setpoint (s : State) : (beginOp s).setpoint = s.setpoint := rfl
@[simp] theorem beginOp_backupSetpoint (s : State) : (beginOp s).backupSetpoint = s.backupSetpoint := rfl
@[simp] theorem beginOp_holdPeriods (s : State) : (beginOp s).holdPeriods = s.holdPeriods := rfl
@[simp] theorem beginOp_dispSetpoint (s : State) : (beginOp s).dispSetpoint = s.dispSetpoint := rfl
@[simp] theorem beginOp_dispTemp (s : State) : (beginOp s).dispTemp = s.dispTemp := rfl
@[simp] theorem beginOp_dispDuty (s : State) : (beginOp s).dispDuty = s.dispDuty := rfl
@[simp] theorem beginOp_msClock (s : State) : (beginOp s).msClock = s.msClock := rfl
@[simp] theorem beginOp_blinkMs (s : State) : (beginOp s).blinkMs = s.blinkMs := rfl
@[simp] theorem beginOp_kp100 (s : State) : (beginOp s).kp100 = s.kp100 := rfl
@[simp] theorem beginOp_ki100 (s : State) : (beginOp s).ki100 = s.ki100 := rfl
@[simp] theorem beginOp_kd100 (s : State) : (beginOp s).kd100 = s.kd100 := rfl
@[simp] theorem beginOp_trace (s : State) : (beginOp s).trace = s.trace := rfl
@[simp] theorem beginOp_config (s : State) : (beginOp s).config = s.config := rfl

/-! ### `drive` writes the pin only -/

@[simp] theorem drive_pin (s : State) : (drive s).pin = driveLevel s.outputEnabled s.slot s.outputDuty := rfl
@[simp] theorem drive_slot (s : State) : (drive s).slot = s.slot := rfl
@[simp] theorem drive_outputDuty (s : State) : (drive s).outputDuty = s.outputDuty := rfl
@[simp] theorem drive_outputDutyFiltered (s : State) : (drive s).outputDutyFiltered = s.outputDutyFiltered := rfl
@[simp] theorem drive_outputEnabled (s : State) : (drive s).outputEnabled = s.outputEnabled := rfl
@[simp] theorem drive_warmup (s : State) : (drive s).warmup = s.warmup := rfl
@[simp] theorem drive_hystOn (s : State) : (drive s).hystOn = s.hystOn := rfl
@[simp] theorem drive_measuredTemperature (s : State) : (drive s).measuredTemperature = s.measuredTemperature := rfl
@[simp] theorem drive_filteredTemperature (s : State) : (drive s).filteredTemperature = s.filteredTemperature := rfl
@[simp] theorem drive_error0 (s : State) : (drive s).error0 = s.error0 := rfl
@[simp] theorem drive_error1 (s : State) : (drive s).error1 = s.error1 := rfl
@[simp] theorem drive_error2 (s : State) : (drive s).error2 = s.error2 := rfl
@[simp] theorem drive_integral (s : State) : (drive s).integral = s.integral := rfl
@[simp] theorem drive_derivative (s : State) : (drive s).derivative = s.derivative := rfl
@[simp] theorem drive_tipRemoved (s : State) : (drive s).tipRemoved = s.tipRemoved := rfl
@[simp] theorem drive_ironDisconnected (s : State) : (drive s).ironDisconnected = s.ironDisconnected := rfl
@[simp] theorem drive_ironInHolder (s : State) : (drive s).ironInHolder = s.ironInHolder := rfl
@[simp] theorem drive_runaway (s : State) : (drive s).runaway = s.runaway := rfl
@[simp] theorem drive_blinkPhase (s : State) : (drive s).blinkPhase = s.blinkPhase := rfl
@[simp] theorem drive_modeState (s : State) : (drive s).modeState = s.modeState := rfl
@[simp] theorem drive_setpoint (s : State) : (drive s).setpoint = s.setpoint := rfl
@[simp] theorem drive_backupSetpoint (s : State) : (drive s).backupSetpoint = s.backupSetpoint := rfl
@[simp] theorem drive_holdPeriods (s : State) : (drive s).holdPeriods = s.holdPeriods := rfl
@[simp] theorem drive_dispSetpoint (s : State) : (drive s).dispSetpoint = s.dispSetpoint := rfl
@[simp] theorem drive_dispTemp (s : State) : (drive s).dispTemp = s.dispTemp := rfl
@[simp] theorem drive_dispDuty (s : State) : (drive s).dispDuty = s.dispDuty := rfl
@[simp] theorem drive_msClock (s : State) : (drive s).msClock = s.msClock := rfl
@[simp] theorem drive_blinkMs (s : State) : (drive s).blinkMs = s.blinkMs := rfl
@[simp] theorem drive_kp100 (s : State) : (drive s).kp100 = s.kp100 := rfl
@[simp] theorem drive_ki100 (s : State) : (drive s).ki100 = s.ki100 := rfl
@[simp] theorem drive_kd100 (s : State) : (drive s).kd100 = s.kd100 := rfl
@[simp] theorem drive_out (s : State) : (drive s).out = s.out := rfl
@[simp] theorem drive_trace (s : State) : (drive s).trace = s.trace := rfl
@[simp] theorem drive_config (s : State) : (drive s).config = s.config := rfl

/-! ### `setCondition` writes the flag of its condition only -/

@[simp] theorem setCondition_flag (c : Condition) (b : Bool) (s : State) : c.flag (setCondition c b s) = b := by
  cases c <;> rfl
@[simp] theorem raiseCondition_eq (c : Condition) (s : State) : raiseCondition c s = setCondition c true s := rfl
@[simp] theorem endCondition_eq (c : Condition) (s : State) : endCondition c s = setCondition c false s := rfl
@[simp] theorem setCondition_adcTimeout (b : Bool) (s : State) :
    setCondition .adcTimeout b s = { s with tipRemoved := b } := rfl
@[simp] theorem setCondition_sensorRange (b : Bool) (s : State) :
    setCondition .sensorRange b s = { s with tipRemoved := b } := rfl
@[simp] theorem setCondition_runaway (b : Bool) (s : State) :
    setCondition .runaway b s = { s with runaway := b } := rfl
@[simp] theorem setCondition_disconnected (b : Bool) (s : State) :
    setCondition .disconnected b s = { s with ironDisconnected := b } := rfl
@[simp] theorem setCondition_slot (c : Condition) (b : Bool) (s : State) : (setCondition c b s).slot = s.slot := by cases c <;> rfl
@[simp] theorem setCondition_pin (c : Condition) (b : Bool) (s : State) : (setCondition c b s).pin = s.pin := by cases c <;> rfl
@[simp] theorem setCondition_outputDuty (c : Condition) (b : Bool) (s : State) : (setCondition c b s).outputDuty = s.outputDuty := by cases c <;> rfl
@[simp] theorem setCondition_outputDutyFiltered (c : Condition) (b : Bool) (s : State) : (setCondition c b s).outputDutyFiltered = s.outputDutyFiltered := by cases c <;> rfl
@[simp] theorem setCondition_outputEnabled (c : Condition) (b : Bool) (s : State) : (setCondition c b s).outputEnabled = s.outputEnabled := by cases c <;> rfl
@[simp] theorem setCondition_warmup (c : Condition) (b : Bool) (s : State) : (setCondition c b s).warmup = s.warmup := by cases c <;> rfl
@[simp] theorem setCondition_hystOn (c : Condition) (b : Bool) (s : State) : (setCondition c b s).hystOn = s.hystOn := by cases c <;> rfl
@[simp] theorem setCondition_measuredTemperature (c : Condition) (b : Bool) (s : State) : (setCondition c b s).measuredTemperature = s.measuredTemperature := by cases c <;> rfl
@[simp] theorem setCondition_filteredTemperature (c : Condition) (b : Bool) (s : State) : (setCondition c b s).filteredTemperature = s.filteredTemperature := by cases c <;> rfl
@[simp] theorem setCondition_error0 (c : Condition) (b : Bool) (s : State) : (setCondition c b s).error0 = s.error0 := by cases c <;> rfl
@[simp] theorem setCondition_error1 (c : Condition) (b : Bool) (s : State) : (setCondition c b s).error1 = s.error1 := by cases c <;> rfl
@[simp] theorem setCondition_error2 (c : Condition) (b : Bool) (s : State) : (setCondition c b s).error2 = s.error2 := by cases c <;> rfl
@[simp] theorem setCondition_integral (c : Condition) (b : Bool) (s : State) : (setCondition c b s).integral = s.integral := by cases c <;> rfl
@[simp] theorem setCondition_derivative (c : Condition) (b : Bool) (s : State) : (setCondition c b s).derivative = s.derivative := by cases c <;> rfl
@[simp] theorem setCondition_ironInHolder (c : Condition) (b : Bool) (s : State) : (setCondition c b s).ironInHolder = s.ironInHolder := by cases c <;> rfl
@[simp] theorem setCondition_blinkPhase (c : Condition) (b : Bool) (s : State) : (setCondition c b s).blinkPhase = s.blinkPhase := by cases c <;> rfl
@[simp] theorem setCondition_modeState (c : Condition) (b : Bool) (s : State) : (setCondition c b s).modeState = s.modeState := by cases c <;> rfl
@[simp] theorem setCondition_setpoint (c : Condition) (b : Bool) (s : State) : (setCondition c b s).setpoint = s.setpoint := by cases c <;> rfl
@[simp] theorem setCondition_backupSetpoint (c : Condition) (b : Bool) (s : State) : (setCondition c b s).backupSetpoint = s.backupSetpoint := by cases c <;> rfl
@[simp] theorem setCondition_holdPeriods (c : Condition) (b : Bool) (s : State) : (setCondition c b s).holdPeriods = s.holdPeriods := by cases c <;> rfl
@[simp] theorem setCondition_dispSetpoint (c : Condition) (b : Bool) (s : State) : (setCondition c b s).dispSetpoint = s.dispSetpoint := by cases c <;> rfl
@[simp] theorem setCondition_dispTemp (c : Condition) (b : Bool) (s : State) : (setCondition c b s).dispTemp = s.dispTemp := by cases c <;> rfl
@[simp] theorem setCondition_dispDuty (c : Condition) (b : Bool) (s : State) : (setCondition c b s).dispDuty = s.dispDuty := by cases c <;> rfl
@[simp] theorem setCondition_msClock (c : Condition) (b : Bool) (s : State) : (setCondition c b s).msClock = s.msClock := by cases c <;> rfl
@[simp] theorem setCondition_blinkMs (c : Condition) (b : Bool) (s : State) : (setCondition c b s).blinkMs = s.blinkMs := by cases c <;> rfl
@[simp] theorem setCondition_kp100 (c : Condition) (b : Bool) (s : State) : (setCondition c b s).kp100 = s.kp100 := by cases c <;> rfl
@[simp] theorem setCondition_ki100 (c : Condition) (b : Bool) (s : State) : (setCondition c b s).ki100 = s.ki100 := by cases c <;> rfl
@[simp] theorem setCondition_kd100 (c : Condition) (b : Bool) (s : State) : (setCondition c b s).kd100 = s.kd100 := by cases c <;> rfl
@[simp] theorem setCondition_out (c : Condition) (b : Bool) (s : State) : (setCondition c b s).out = s.out := by cases c <;> rfl
@[simp] theorem setCondition_trace (c : Condition) (b : Bool) (s : State) : (setCondition c b s).trace = s.trace := by cases c <;> rfl
@[simp] theorem setCondition_config (c : Condition) (b : Bool) (s : State) : (setCondition c b s).config = s.config := by cases c <;> rfl

/-! ### `controlPid` writes the PID elements and the duty -/

@[simp] theorem controlPid_slot (s : State) : (controlPid s).slot = s.slot := rfl
@[simp] theorem controlPid_pin (s : State) : (controlPid s).pin = s.pin := rfl
@[simp] theorem controlPid_outputDutyFiltered (s : State) : (controlPid s).outputDutyFiltered = s.outputDutyFiltered := rfl
@[simp] theorem controlPid_outputEnabled (s : State) : (controlPid s).outputEnabled = s.outputEnabled := rfl
@[simp] theorem controlPid_warmup (s : State) : (controlPid s).warmup = s.warmup := rfl
@[simp] theorem controlPid_hystOn (s : State) : (controlPid s).hystOn = s.hystOn := rfl
@[simp] theorem controlPid_measuredTemperature (s : State) : (controlPid s).measuredTemperature = s.measuredTemperature := rfl
@[simp] theorem controlPid_filteredTemperature (s : State) : (controlPid s).filteredTemperature = s.filteredTemperature := rfl
@[simp] theorem controlPid_error2 (s : State) : (controlPid s).error2 = s.error2 := rfl
@[simp] theorem controlPid_tipRemoved (s : State) : (controlPid s).tipRemoved = s.tipRemoved := rfl
@[simp] theorem controlPid_ironDisconnected (s : State) : (controlPid s).ironDisconnected = s.ironDisconnected := rfl
@[simp] theorem controlPid_ironInHolder (s : State) : (controlPid s).ironInHolder = s.ironInHolder := rfl
@[simp] theorem controlPid_runaway (s : State) : (controlPid s).runaway = s.runaway := rfl
@[simp] theorem controlPid_blinkPhase (s : State) : (controlPid s).blinkPhase = s.blinkPhase := rfl
@[simp] theorem controlPid_modeState (s : State) : (controlPid s).modeState = s.modeState := rfl
@[simp] theorem controlPid_setpoint (s : State) : (controlPid s).setpoint = s.setpoint := rfl
@[simp] theorem controlPid_backupSetpoint (s : State) : (controlPid s).backupSetpoint = s.backupSetpoint := rfl
@[simp] theorem controlPid_holdPeriods (s : State) : (controlPid s).holdPeriods = s.holdPeriods := rfl
@[simp] theorem controlPid_dispSetpoint (s : State) : (controlPid s).dispSetpoint = s.dispSetpoint := rfl
@[simp] theorem controlPid_dispTemp (s : State) : (controlPid s).dispTemp = s.dispTemp := rfl
@[simp] theorem controlPid_dispDuty (s : State) : (controlPid s).dispDuty = s.dispDuty := rfl
@[simp] theorem controlPid_msClock (s : State) : (controlPid s).msClock = s.msClock := rfl
@[simp] theorem controlPid_blinkMs (s : State) : (controlPid s).blinkMs = s.blinkMs := rfl
@[simp] theorem controlPid_kp100 (s : State) : (controlPid s).kp100 = s.kp100 := rfl
@[simp] theorem controlPid_ki100 (s : State) : (controlPid s).ki100 = s.ki100 := rfl
@[simp] theorem controlPid_kd100 (s : State) : (controlPid s).kd100 = s.kd100 := rfl
@[simp] theorem controlPid_out (s : State) : (controlPid s).out = s.out := rfl
@[simp] theorem controlPid_trace (s : State) : (controlPid s).trace = s.trace := rfl
@[simp] theorem controlPid_config (s : State) : (controlPid s).config = s.config := rfl

/-! ### `controlHyst` writes the hysteresis memory and the duty -/

@[simp] theorem controlHyst_slot (s : State) : (controlHyst s).slot = s.slot := rfl
@[simp] theorem controlHyst_pin (s : State) : (controlHyst s).pin = s.pin := rfl
@[simp] theorem controlHyst_outputDutyFiltered (s : State) : (controlHyst s).outputDutyFiltered = s.outputDutyFiltered := rfl
@[simp] theorem controlHyst_outputEnabled (s : State) : (controlHyst s).outputEnabled = s.outputEnabled := rfl
@[simp] theorem controlHyst_warmup (s : State) : (controlHyst s).warmup = s.warmup := rfl
@[simp] theorem controlHyst_measuredTemperature (s : State) : (controlHyst s).measuredTemperature = s.measuredTemperature := rfl
@[simp] theorem controlHyst_filteredTemperature (s : State) : (controlHyst s).filteredTemperature = s.filteredTemperature := rfl
@[simp] theorem controlHyst_error0 (s : State) : (controlHyst s).error0 = s.error0 := rfl
@[simp] theorem controlHyst_error1 (s : State) : (controlHyst s).error1 = s.error1 := rfl
@[simp] theorem controlHyst_error2 (s : State) : (controlHyst s).error2 = s.error2 := rfl
@[simp] theorem controlHyst_integral (s : State) : (controlHyst s).integral = s.integral := rfl
@[simp] theorem controlHyst_derivative (s : State) : (controlHyst s).derivative = s.derivative := rfl
@[simp] theorem controlHyst_tipRemoved (s : State) : (controlHyst s).tipRemoved = s.tipRemoved := rfl
@[simp] theorem controlHyst_ironDisconnected (s : State) : (controlHyst s).ironDisconnected = s.ironDisconnected := rfl
@[simp] theorem controlHyst_ironInHolder (s : State) : (controlHyst s).ironInHolder = s.ironInHolder := rfl
@[simp] theorem controlHyst_runaway (s : State) : (controlHyst s).runaway = s.runaway := rfl
@[simp] theorem controlHyst_blinkPhase (s : State) : (controlHyst s).blinkPhase = s.blinkPhase := rfl
@[simp] theorem controlHyst_modeState (s : State) : (controlHyst s).modeState = s.modeState := rfl
@[simp] theorem controlHyst_setpoint (s : State) : (controlHyst s).setpoint = s.setpoint := rfl
@[simp] theorem controlHyst_backupSetpoint (s : State) : (controlHyst s).backupSetpoint = s.backupSetpoint := rfl
@[simp] theorem controlHyst_holdPeriods (s : State) : (controlHyst s).holdPeriods = s.holdPeriods := rfl
@[simp] theorem controlHyst_dispSetpoint (s : State) : (controlHyst s).dispSetpoint = s.dispSetpoint := rfl
@[simp] theorem controlHyst_dispTemp (s : State) : (controlHyst s).dispTemp = s.dispTemp := rfl
@[simp] theorem controlHyst_dispDuty (s : State) : (controlHyst s).dispDuty = s.dispDuty := rfl
@[simp] theorem controlHyst_msClock (s : State) : (controlHyst s).msClock = s.msClock := rfl
@[simp] theorem controlHyst_blinkMs (s : State) : (controlHyst s).blinkMs = s.blinkMs := rfl
@[simp] theorem controlHyst_kp100 (s : State) : (controlHyst s).kp100 = s.kp100 := rfl
@[simp] theorem controlHyst_ki100 (s : State) : (controlHyst s).ki100 = s.ki100 := rfl
@[simp] theorem controlHyst_kd100 (s : State) : (controlHyst s).kd100 = s.kd100 := rfl
@[simp] theorem controlHyst_out (s : State) : (controlHyst s).out = s.out := rfl
@[simp] theorem controlHyst_trace (s : State) : (controlHyst s).trace = s.trace := rfl
@[simp] theorem controlHyst_config (s : State) : (controlHyst s).config = s.config := rfl

/-! ### `controlLaw` writes what its policy writes -/

@[simp] theorem controlLaw_slot (s : State) : (controlLaw s).slot = s.slot := by unfold controlLaw; split <;> rfl
@[simp] theorem controlLaw_pin (s : State) : (controlLaw s).pin = s.pin := by unfold controlLaw; split <;> rfl
@[simp] theorem controlLaw_outputDutyFiltered (s : State) : (controlLaw s).outputDutyFiltered = s.outputDutyFiltered := by unfold controlLaw; split <;> rfl
@[simp] theorem controlLaw_outputEnabled (s : State) : (controlLaw s).outputEnabled = s.outputEnabled := by unfold controlLaw; split <;> rfl
@[simp] theorem controlLaw_warmup (s : State) : (controlLaw s).warmup = s.warmup := by unfold controlLaw; split <;> rfl
@[simp] theorem controlLaw_measuredTemperature (s : State) : (controlLaw s).measuredTemperature = s.measuredTemperature := by unfold controlLaw; split <;> rfl
@[simp] theorem controlLaw_filteredTemperature (s : State) : (controlLaw s).filteredTemperature = s.filteredTemperature := by unfold controlLaw; split <;> rfl
@[simp] theorem controlLaw_error2 (s : State) : (controlLaw s).error2 = s.error2 := by unfold controlLaw; split <;> rfl
@[simp] theorem controlLaw_tipRemoved (s : State) : (controlLaw s).tipRemoved = s.tipRemoved := by unfold controlLaw; split <;> rfl
@[simp] theorem controlLaw_ironDisconnected (s : State) : (controlLaw s).ironDisconnected = s.ironDisconnected := by unfold controlLaw; split <;> rfl
@[simp] theorem controlLaw_ironInHolder (s : State) : (controlLaw s).ironInHolder = s.ironInHolder := by unfold controlLaw; split <;> rfl
@[simp] theorem controlLaw_runaway (s : State) : (controlLaw s).runaway = s.runaway := by unfold controlLaw; split <;> rfl
@[simp] theorem controlLaw_blinkPhase (s : State) : (controlLaw s).blinkPhase = s.blinkPhase := by unfold controlLaw; split <;> rfl
@[simp] theorem controlLaw_modeState (s : State) : (controlLaw s).modeState = s.modeState := by unfold controlLaw; split <;> rfl
@[simp] theorem controlLaw_setpoint (s : State) : (controlLaw s).setpoint = s.setpoint := by unfold controlLaw; split <;> rfl
@[simp] theorem controlLaw_backupSetpoint (s : State) : (controlLaw s).backupSetpoint = s.backupSetpoint := by unfold controlLaw; split <;> rfl
@[simp] theorem controlLaw_holdPeriods (s : State) : (controlLaw s).holdPeriods = s.holdPeriods := by unfold controlLaw; split <;> rfl
@[simp] theorem controlLaw_dispSetpoint (s : State) : (controlLaw s).dispSetpoint = s.dispSetpoint := by unfold controlLaw; split <;> rfl
@[simp] theorem controlLaw_dispTemp (s : State) : (controlLaw s).dispTemp = s.dispTemp := by unfold controlLaw; split <;> rfl
@[simp] theorem controlLaw_dispDuty (s : State) : (controlLaw s).dispDuty = s.dispDuty := by unfold controlLaw; split <;> rfl
@[simp] theorem controlLaw_msClock (s : State) : (controlLaw s).msClock = s.msClock := by unfold controlLaw; split <;> rfl
@[simp] theorem controlLaw_blinkMs (s : State) : (controlLaw s).blinkMs = s.blinkMs := by unfold controlLaw; split <;> rfl
@[simp] theorem controlLaw_kp100 (s : State) : (controlLaw s).kp100 = s.kp100 := by unfold controlLaw; split <;> rfl
@[simp] theorem controlLaw_ki100 (s : State) : (controlLaw s).ki100 = s.ki100 := by unfold controlLaw; split <;> rfl
@[simp] theorem controlLaw_kd100 (s : State) : (controlLaw s).kd100 = s.kd100 := by unfold controlLaw; split <;> rfl
@[simp] theorem controlLaw_out (s : State) : (controlLaw s).out = s.out := by unfold controlLaw; split <;> rfl
@[simp] theorem controlLaw_trace (s : State) : (controlLaw s).trace = s.trace := by unfold controlLaw; split <;> rfl
@[simp] theorem controlLaw_config (s : State) : (controlLaw s).config = s.config := by unfold controlLaw; split <;> rfl

/-! ### `outFilter` writes the filtered duty only -/

@[simp] theorem outFilter_outputDutyFiltered (s : State) :
    (outFilter s).outputDutyFiltered = filterDuty s.outputDuty s.outputDutyFiltered := rfl
@[simp] theorem outFilter_slot (s : State) : (outFilter s).slot = s.slot := rfl
@[simp] theorem outFilter_pin (s : State) : (outFilter s).pin = s.pin := rfl
@[simp] theorem outFilter_outputDuty (s : State) : (outFilter s).outputDuty = s.outputDuty := rfl
@[simp] theorem outFilter_outputEnabled (s : State) : (outFilter s).outputEnabled = s.outputEnabled := rfl
@[simp] theorem outFilter_warmup (s : State) : (outFilter s).warmup = s.warmup := rfl
@[simp] theorem outFilter_hystOn (s : State) : (outFilter s).hystOn = s.hystOn := rfl
@[simp] theorem outFilter_measuredTemperature (s : State) : (outFilter s).measuredTemperature = s.measuredTemperature := rfl
@[simp] theorem outFilter_filteredTemperature (s : State) : (outFilter s).filteredTemperature = s.filteredTemperature := rfl
@[simp] theorem outFilter_error0 (s : State) : (outFilter s).error0 = s.error0 := rfl
@[simp] theorem outFilter_error1 (s : State) : (outFilter s).error1 = s.error1 := rfl
@[simp] theorem outFilter_error2 (s : State) : (outFilter s).error2 = s.error2 := rfl
@[simp] theorem outFilter_integral (s : State) : (outFilter s).integral = s.integral := rfl
@[simp] theorem outFilter_derivative (s : State) : (outFilter s).derivative = s.derivative := rfl
@[simp] theorem outFilter_tipRemoved (s : State) : (outFilter s).tipRemoved = s.tipRemoved := rfl
@[simp] theorem outFilter_ironDisconnected (s : State) : (outFilter s).ironDisconnected = s.ironDisconnected := rfl
@[simp] theorem outFilter_ironInHolder (s : State) : (outFilter s).ironInHolder = s.ironInHolder := rfl
@[simp] theorem outFilter_runaway (s : State) : (outFilter s).runaway = s.runaway := rfl
@[simp] theorem outFilter_blinkPhase (s : State) : (outFilter s).blinkPhase = s.blinkPhase := rfl
@[simp] theorem outFilter_modeState (s : State) : (outFilter s).modeState = s.modeState := rfl
@[simp] theorem outFilter_setpoint (s : State) : (outFilter s).setpoint = s.setpoint := rfl
@[simp] theorem outFilter_backupSetpoint (s : State) : (outFilter s).backupSetpoint = s.backupSetpoint := rfl
@[simp] theorem outFilter_holdPeriods (s : State) : (outFilter s).holdPeriods = s.holdPeriods := rfl
@[simp] theorem outFilter_dispSetpoint (s : State) : (outFilter s).dispSetpoint = s.dispSetpoint := rfl
@[simp] theorem outFilter_dispTemp (s : State) : (outFilter s).dispTemp = s.dispTemp := rfl
@[simp] theorem outFilter_dispDuty (s : State) : (outFilter s).dispDuty = s.dispDuty := rfl
@[simp] theorem outFilter_msClock (s : State) : (outFilter s).msClock = s.msClock := rfl
@[simp] theorem outFilter_blinkMs (s : State) : (outFilter s).blinkMs = s.blinkMs := rfl
@[simp] theorem outFilter_kp100 (s : State) : (outFilter s).kp100 = s.kp100 := rfl
@[simp] theorem outFilter_ki100 (s : State) : (outFilter s).ki100 = s.ki100 := rfl
@[simp] theorem outFilter_kd100 (s : State) : (outFilter s).kd100 = s.kd100 := rfl
@[simp] theorem outFilter_out (s : State) : (outFilter s).out = s.out := rfl
@[simp] theorem outFilter_trace (s : State) : (outFilter s).trace = s.trace := rfl
@[simp] theorem outFilter_config (s : State) : (outFilter s).config = s.config := rfl

/-! ### `startConversion` writes the pin and the outputs -/

@[simp] theorem startConversion_pin (s : State) : (startConversion s).pin = false := rfl
@[simp] theorem startConversion_out (s : State) : (startConversion s).out = { adcStart := true } := rfl
@[simp] theorem startConversion_slot (s : State) : (startConversion s).slot = s.slot := rfl
@[simp] theorem startConversion_outputDuty (s : State) : (startConversion s).outputDuty = s.outputDuty := rfl
@[simp] theorem startConversion_outputDutyFiltered (s : State) : (startConversion s).outputDutyFiltered = s.outputDutyFiltered := rfl
@[simp] theorem startConversion_outputEnabled (s : State) : (startConversion s).outputEnabled = s.outputEnabled := rfl
@[simp] theorem startConversion_warmup (s : State) : (startConversion s).warmup = s.warmup := rfl
@[simp] theorem startConversion_hystOn (s : State) : (startConversion s).hystOn = s.hystOn := rfl
@[simp] theorem startConversion_measuredTemperature (s : State) : (startConversion s).measuredTemperature = s.measuredTemperature := rfl
@[simp] theorem startConversion_filteredTemperature (s : State) : (startConversion s).filteredTemperature = s.filteredTemperature := rfl
@[simp] theorem startConversion_error0 (s : State) : (startConversion s).error0 = s.error0 := rfl
@[simp] theorem startConversion_error1 (s : State) : (startConversion s).error1 = s.error1 := rfl
@[simp] theorem startConversion_error2 (s : State) : (startConversion s).error2 = s.error2 := rfl
@[simp] theorem startConversion_integral (s : State) : (startConversion s).integral = s.integral := rfl
@[simp] theorem startConversion_derivative (s : State) : (startConversion s).derivative = s.derivative := rfl
@[simp] theorem startConversion_tipRemoved (s : State) : (startConversion s).tipRemoved = s.tipRemoved := rfl
@[simp] theorem startConversion_ironDisconnected (s : State) : (startConversion s).ironDisconnected = s.ironDisconnected := rfl
@[simp] theorem startConversion_ironInHolder (s : State) : (startConversion s).ironInHolder = s.ironInHolder := rfl
@[simp] theorem startConversion_runaway (s : State) : (startConversion s).runaway = s.runaway := rfl
@[simp] theorem startConversion_blinkPhase (s : State) : (startConversion s).blinkPhase = s.blinkPhase := rfl
@[simp] theorem startConversion_modeState (s : State) : (startConversion s).modeState = s.modeState := rfl
@[simp] theorem startConversion_setpoint (s : State) : (startConversion s).setpoint = s.setpoint := rfl
@[simp] theorem startConversion_backupSetpoint (s : State) : (startConversion s).backupSetpoint = s.backupSetpoint := rfl
@[simp] theorem startConversion_holdPeriods (s : State) : (startConversion s).holdPeriods = s.holdPeriods := rfl
@[simp] theorem startConversion_dispSetpoint (s : State) : (startConversion s).dispSetpoint = s.dispSetpoint := rfl
@[simp] theorem startConversion_dispTemp (s : State) : (startConversion s).dispTemp = s.dispTemp := rfl
@[simp] theorem startConversion_dispDuty (s : State) : (startConversion s).dispDuty = s.dispDuty := rfl
@[simp] theorem startConversion_msClock (s : State) : (startConversion s).msClock = s.msClock := rfl
@[simp] theorem startConversion_blinkMs (s : State) : (startConversion s).blinkMs = s.blinkMs := rfl
@[simp] theorem startConversion_kp100 (s : State) : (startConversion s).kp100 = s.kp100 := rfl
@[simp] theorem startConversion_ki100 (s : State) : (startConversion s).ki100 = s.ki100 := rfl
@[simp] theorem startConversion_kd100 (s : State) : (startConversion s).kd100 = s.kd100 := rfl
@[simp] theorem startConversion_trace (s : State) : (startConversion s).trace = s.trace := rfl
@[simp] theorem startConversion_config (s : State) : (startConversion s).config = s.config := rfl

/-! ### `latchLevels` writes the two latched levels -/

@[simp] theorem latchLevels_ironDisconnected (disc holder : Bool) (s : State) : (latchLevels disc holder s).ironDisconnected = disc := rfl
@[simp] theorem latchLevels_ironInHolder (disc holder : Bool) (s : State) : (latchLevels disc holder s).ironInHolder = holder := rfl
@[simp] theorem latchLevels_slot (disc holder : Bool) (s : State) : (latchLevels disc holder s).slot = s.slot := rfl
@[simp] theorem latchLevels_pin (disc holder : Bool) (s : State) : (latchLevels disc holder s).pin = s.pin := rfl
@[simp] theorem latchLevels_outputDuty (disc holder : Bool) (s : State) : (latchLevels disc holder s).outputDuty = s.outputDuty := rfl
@[simp] theorem latchLevels_outputDutyFiltered (disc holder : Bool) (s : State) : (latchLevels disc holder s).outputDutyFiltered = s.outputDutyFiltered := rfl
@[simp] theorem latchLevels_outputEnabled (disc holder : Bool) (s : State) : (latchLevels disc holder s).outputEnabled = s.outputEnabled := rfl
@[simp] theorem latchLevels_warmup (disc holder : Bool) (s : State) : (latchLevels disc holder s).warmup = s.warmup := rfl
@[simp] theorem latchLevels_hystOn (disc holder : Bool) (s : State) : (latchLevels disc holder s).hystOn = s.hystOn := rfl
@[simp] theorem latchLevels_measuredTemperature (disc holder : Bool) (s : State) : (latchLevels disc holder s).measuredTemperature = s.measuredTemperature := rfl
@[simp] theorem latchLevels_filteredTemperature (disc holder : Bool) (s : State) : (latchLevels disc holder s).filteredTemperature = s.filteredTemperature := rfl
@[simp] theorem latchLevels_error0 (disc holder : Bool) (s : State) : (latchLevels disc holder s).error0 = s.error0 := rfl
@[simp] theorem latchLevels_error1 (disc holder : Bool) (s : State) : (latchLevels disc holder s).error1 = s.error1 := rfl
@[simp] theorem latchLevels_error2 (disc holder : Bool) (s : State) : (latchLevels disc holder s).error2 = s.error2 := rfl
@[simp] theorem latchLevels_integral (disc holder : Bool) (s : State) : (latchLevels disc holder s).integral = s.integral := rfl
@[simp] theorem latchLevels_derivative (disc holder : Bool) (s : State) : (latchLevels disc holder s).derivative = s.derivative := rfl
@[simp] theorem latchLevels_tipRemoved (disc holder : Bool) (s : State) : (latchLevels disc holder s).tipRemoved = s.tipRemoved := rfl
@[simp] theorem latchLevels_runaway (disc holder : Bool) (s : State) : (latchLevels disc holder s).runaway = s.runaway := rfl
@[simp] theorem latchLevels_blinkPhase (disc holder : Bool) (s : State) : (latchLevels disc holder s).blinkPhase = s.blinkPhase := rfl
@[simp] theorem latchLevels_modeState (disc holder : Bool) (s : State) : (latchLevels disc holder s).modeState = s.modeState := rfl
@[simp] theorem latchLevels_setpoint (disc holder : Bool) (s : State) : (latchLevels disc holder s).setpoint = s.setpoint := rfl
@[simp] theorem latchLevels_backupSetpoint (disc holder : Bool) (s : State) : (latchLevels disc holder s).backupSetpoint = s.backupSetpoint := rfl
@[simp] theorem latchLevels_holdPeriods (disc holder : Bool) (s : State) : (latchLevels disc holder s).holdPeriods = s.holdPeriods := rfl
@[simp] theorem latchLevels_dispSetpoint (disc holder : Bool) (s : State) : (latchLevels disc holder s).dispSetpoint = s.dispSetpoint := rfl
@[simp] theorem latchLevels_dispTemp (disc holder : Bool) (s : State) : (latchLevels disc holder s).dispTemp = s.dispTemp := rfl
@[simp] theorem latchLevels_dispDuty (disc holder : Bool) (s : State) : (latchLevels disc holder s).dispDuty = s.dispDuty := rfl
@[simp] theorem latchLevels_msClock (disc holder : Bool) (s : State) : (latchLevels disc holder s).msClock = s.msClock := rfl
@[simp] theorem latchLevels_blinkMs (disc holder : Bool) (s : State) : (latchLevels disc holder s).blinkMs = s.blinkMs := rfl
@[simp] theorem latchLevels_kp100 (disc holder : Bool) (s : State) : (latchLevels disc holder s).kp100 = s.kp100 := rfl
@[simp] theorem latchLevels_ki100 (disc holder : Bool) (s : State) : (latchLevels disc holder s).ki100 = s.ki100 := rfl
@[simp] theorem latchLevels_kd100 (disc holder : Bool) (s : State) : (latchLevels disc holder s).kd100 = s.kd100 := rfl
@[simp] theorem latchLevels_out (disc holder : Bool) (s : State) : (latchLevels disc holder s).out = s.out := rfl
@[simp] theorem latchLevels_trace (disc holder : Bool) (s : State) : (latchLevels disc holder s).trace = s.trace := rfl
@[simp] theorem latchLevels_config (disc holder : Bool) (s : State) : (latchLevels disc holder s).config = s.config := rfl

/-! ### `forceOff` writes the enable and the duties -/

@[simp] theorem forceOff_outputEnabled (s : State) : (forceOff s).outputEnabled = false := rfl
@[simp] theorem forceOff_outputDuty (s : State) : (forceOff s).outputDuty = 0 := rfl
@[simp] theorem forceOff_outputDutyFiltered (s : State) : (forceOff s).outputDutyFiltered = 0 := rfl
@[simp] theorem forceOff_slot (s : State) : (forceOff s).slot = s.slot := rfl
@[simp] theorem forceOff_pin (s : State) : (forceOff s).pin = s.pin := rfl
@[simp] theorem forceOff_warmup (s : State) : (forceOff s).warmup = s.warmup := rfl
@[simp] theorem forceOff_hystOn (s : State) : (forceOff s).hystOn = s.hystOn := rfl
@[simp] theorem forceOff_measuredTemperature (s : State) : (forceOff s).measuredTemperature = s.measuredTemperature := rfl
@[simp] theorem forceOff_filteredTemperature (s : State) : (forceOff s).filteredTemperature = s.filteredTemperature := rfl
@[simp] theorem forceOff_error0 (s : State) : (forceOff s).error0 = s.error0 := rfl
@[simp] theorem forceOff_error1 (s : State) : (forceOff s).error1 = s.error1 := rfl
@[simp] theorem forceOff_error2 (s : State) : (forceOff s).error2 = s.error2 := rfl
@[simp] theorem forceOff_integral (s : State) : (forceOff s).integral = s.integral := rfl
@[simp] theorem forceOff_derivative (s : State) : (forceOff s).derivative = s.derivative := rfl
@[simp] theorem forceOff_tipRemoved (s : State) : (forceOff s).tipRemoved = s.tipRemoved := rfl
@[simp] theorem forceOff_ironDisconnected (s : State) : (forceOff s).ironDisconnected = s.ironDisconnected := rfl
@[simp] theorem forceOff_ironInHolder (s : State) : (forceOff s).ironInHolder = s.ironInHolder := rfl
@[simp] theorem forceOff_runaway (s : State) : (forceOff s).runaway = s.runaway := rfl
@[simp] theorem forceOff_blinkPhase (s : State) : (forceOff s).blinkPhase = s.blinkPhase := rfl
@[simp] theorem forceOff_modeState (s : State) : (forceOff s).modeState = s.modeState := rfl
@[simp] theorem forceOff_setpoint (s : State) : (forceOff s).setpoint = s.setpoint := rfl
@[simp] theorem forceOff_backupSetpoint (s : State) : (forceOff s).backupSetpoint = s.backupSetpoint := rfl
@[simp] theorem forceOff_holdPeriods (s : State) : (forceOff s).holdPeriods = s.holdPeriods := rfl
@[simp] theorem forceOff_dispSetpoint (s : State) : (forceOff s).dispSetpoint = s.dispSetpoint := rfl
@[simp] theorem forceOff_dispTemp (s : State) : (forceOff s).dispTemp = s.dispTemp := rfl
@[simp] theorem forceOff_dispDuty (s : State) : (forceOff s).dispDuty = s.dispDuty := rfl
@[simp] theorem forceOff_msClock (s : State) : (forceOff s).msClock = s.msClock := rfl
@[simp] theorem forceOff_blinkMs (s : State) : (forceOff s).blinkMs = s.blinkMs := rfl
@[simp] theorem forceOff_kp100 (s : State) : (forceOff s).kp100 = s.kp100 := rfl
@[simp] theorem forceOff_ki100 (s : State) : (forceOff s).ki100 = s.ki100 := rfl
@[simp] theorem forceOff_kd100 (s : State) : (forceOff s).kd100 = s.kd100 := rfl
@[simp] theorem forceOff_out (s : State) : (forceOff s).out = s.out := rfl
@[simp] theorem forceOff_trace (s : State) : (forceOff s).trace = s.trace := rfl
@[simp] theorem forceOff_config (s : State) : (forceOff s).config = s.config := rfl

/-! ### `safety` writes the two latched levels, the enable and the duties -/

@[simp] theorem safety_ironDisconnected (disc holder enableReq : Bool) (s : State) :
    (safety disc holder enableReq s).ironDisconnected = disc := by unfold safety; dsimp only; split <;> rfl
@[simp] theorem safety_ironInHolder (disc holder enableReq : Bool) (s : State) :
    (safety disc holder enableReq s).ironInHolder = holder := by unfold safety; dsimp only; split <;> rfl
@[simp] theorem safety_outputEnabled (disc holder enableReq : Bool) (s : State) :
    (safety disc holder enableReq s).outputEnabled = (enableReq && !(s.tipRemoved || disc)) := by
  unfold safety; cases h : s.tipRemoved <;> cases disc <;> simp [h]
@[simp] theorem safety_outputDuty (disc holder enableReq : Bool) (s : State) :
    (safety disc holder enableReq s).outputDuty = if s.tipRemoved || disc then 0 else s.outputDuty := by
  unfold safety; cases h : s.tipRemoved <;> cases disc <;> simp [h]
@[simp] theorem safety_outputDutyFiltered (disc holder enableReq : Bool) (s : State) :
    (safety disc holder enableReq s).outputDutyFiltered
      = if s.tipRemoved || disc then 0 else s.outputDutyFiltered := by
  unfold safety; cases h : s.tipRemoved <;> cases disc <;> simp [h]
@[simp] theorem safety_slot (disc holder enableReq : Bool) (s : State) :
    (safety disc holder enableReq s).slot = s.slot := by unfold safety; dsimp only; split <;> rfl
@[simp] theorem safety_pin (disc holder enableReq : Bool) (s : State) :
    (safety disc holder enableReq s).pin = s.pin := by unfold safety; dsimp only; split <;> rfl
@[simp] theorem safety_warmup (disc holder enableReq : Bool) (s : State) :
    (safety disc holder enableReq s).warmup = s.warmup := by unfold safety; dsimp only; split <;> rfl
@[simp] theorem safety_hystOn (disc holder enableReq : Bool) (s : State) :
    (safety disc holder enableReq s).hystOn = s.hystOn := by unfold safety; dsimp only; split <;> rfl
@[simp] theorem safety_measuredTemperature (disc holder enableReq : Bool) (s : State) :
    (safety disc holder enableReq s).measuredTemperature = s.measuredTemperature := by unfold safety; dsimp only; split <;> rfl
@[simp] theorem safety_filteredTemperature (disc holder enableReq : Bool) (s : State) :
    (safety disc holder enableReq s).filteredTemperature = s.filteredTemperature := by unfold safety; dsimp only; split <;> rfl
@[simp] theorem safety_error0 (disc holder enableReq : Bool) (s : State) :
    (safety disc holder enableReq s).error0 = s.error0 := by unfold safety; dsimp only; split <;> rfl
@[simp] theorem safety_error1 (disc holder enableReq : Bool) (s : State) :
    (safety disc holder enableReq s).error1 = s.error1 := by unfold safety; dsimp only; split <;> rfl
@[simp] theorem safety_error2 (disc holder enableReq : Bool) (s : State) :
    (safety disc holder enableReq s).error2 = s.error2 := by unfold safety; dsimp only; split <;> rfl
@[simp] theorem safety_integral (disc holder enableReq : Bool) (s : State) :
    (safety disc holder enableReq s).integral = s.integral := by unfold safety; dsimp only; split <;> rfl
@[simp] theorem safety_derivative (disc holder enableReq : Bool) (s : State) :
    (safety disc holder enableReq s).derivative = s.derivative := by unfold safety; dsimp only; split <;> rfl
@[simp] theorem safety_tipRemoved (disc holder enableReq : Bool) (s : State) :
    (safety disc holder enableReq s).tipRemoved = s.tipRemoved := by unfold safety; dsimp only; split <;> rfl
@[simp] theorem safety_runaway (disc holder enableReq : Bool) (s : State) :
    (safety disc holder enableReq s).runaway = s.runaway := by unfold safety; dsimp only; split <;> rfl
@[simp] theorem safety_blinkPhase (disc holder enableReq : Bool) (s : State) :
    (safety disc holder enableReq s).blinkPhase = s.blinkPhase := by unfold safety; dsimp only; split <;> rfl
@[simp] theorem safety_modeState (disc holder enableReq : Bool) (s : State) :
    (safety disc holder enableReq s).modeState = s.modeState := by unfold safety; dsimp only; split <;> rfl
@[simp] theorem safety_setpoint (disc holder enableReq : Bool) (s : State) :
    (safety disc holder enableReq s).setpoint = s.setpoint := by unfold safety; dsimp only; split <;> rfl
@[simp] theorem safety_backupSetpoint (disc holder enableReq : Bool) (s : State) :
    (safety disc holder enableReq s).backupSetpoint = s.backupSetpoint := by unfold safety; dsimp only; split <;> rfl
@[simp] theorem safety_holdPeriods (disc holder enableReq : Bool) (s : State) :
    (safety disc holder enableReq s).holdPeriods = s.holdPeriods := by unfold safety; dsimp only; split <;> rfl
@[simp] theorem safety_dispSetpoint (disc holder enableReq : Bool) (s : State) :
    (safety disc holder enableReq s).dispSetpoint = s.dispSetpoint := by unfold safety; dsimp only; split <;> rfl
@[simp] theorem safety_dispTemp (disc holder enableReq : Bool) (s : State) :
    (safety disc holder enableReq s).dispTemp = s.dispTemp := by unfold safety; dsimp only; split <;> rfl
@[simp] theorem safety_dispDuty (disc holder enableReq : Bool) (s : State) :
    (safety disc holder enableReq s).dispDuty = s.dispDuty := by unfold safety; dsimp only; split <;> rfl
@[simp] theorem safety_msClock (disc holder enableReq : Bool) (s : State) :
    (safety disc holder enableReq s).msClock = s.msClock := by unfold safety; dsimp only; split <;> rfl
@[simp] theorem safety_blinkMs (disc holder enableReq : Bool) (s : State) :
    (safety disc holder enableReq s).blinkMs = s.blinkMs := by unfold safety; dsimp only; split <;> rfl
@[simp] theorem safety_kp100 (disc holder enableReq : Bool) (s : State) :
    (safety disc holder enableReq s).kp100 = s.kp100 := by unfold safety; dsimp only; split <;> rfl
@[simp] theorem safety_ki100 (disc holder enableReq : Bool) (s : State) :
    (safety disc holder enableReq s).ki100 = s.ki100 := by unfold safety; dsimp only; split <;> rfl
@[simp] theorem safety_kd100 (disc holder enableReq : Bool) (s : State) :
    (safety disc holder enableReq s).kd100 = s.kd100 := by unfold safety; dsimp only; split <;> rfl
@[simp] theorem safety_out (disc holder enableReq : Bool) (s : State) :
    (safety disc holder enableReq s).out = s.out := by unfold safety; dsimp only; split <;> rfl
@[simp] theorem safety_trace (disc holder enableReq : Bool) (s : State) :
    (safety disc holder enableReq s).trace = s.trace := by unfold safety; dsimp only; split <;> rfl
@[simp] theorem safety_config (disc holder enableReq : Bool) (s : State) :
    (safety disc holder enableReq s).config = s.config := by unfold safety; dsimp only; split <;> rfl

/-! ### `acquireCompleted` writes the temperatures, the warm-up counter and two flags -/

@[simp] theorem acquireCompleted_tipRemoved (sample : Nat) (s : State) : (acquireCompleted sample s).2.tipRemoved = false := rfl
@[simp] theorem acquireCompleted_measuredTemperature (sample : Nat) (s : State) :
    (acquireCompleted sample s).2.measuredTemperature = sampleTemperature s.cfg sample := rfl
@[simp] theorem acquireCompleted_filteredTemperature (sample : Nat) (s : State) :
    (acquireCompleted sample s).2.filteredTemperature
      = round5 (filterValue s.cfg (sampleTemperature s.cfg sample) s.filteredTemperature) := rfl
@[simp] theorem acquireCompleted_runaway (sample : Nat) (s : State) :
    (acquireCompleted sample s).2.runaway
      = runawayTest (round5 (filterValue s.cfg (sampleTemperature s.cfg sample) s.filteredTemperature)) s.setpoint := rfl
@[simp] theorem acquireCompleted_warmup (sample : Nat) (s : State) : (acquireCompleted sample s).2.warmup = nextWarmup s.warmup := rfl
@[simp] theorem acquireCompleted_slot (sample : Nat) (s : State) :
    ((acquireCompleted sample s).2).slot = s.slot := rfl
@[simp] theorem acquireCompleted_pin (sample : Nat) (s : State) :
    ((acquireCompleted sample s).2).pin = s.pin := rfl
@[simp] theorem acquireCompleted_outputDuty (sample : Nat) (s : State) :
    ((acquireCompleted sample s).2).outputDuty = s.outputDuty := rfl
@[simp] theorem acquireCompleted_outputDutyFiltered (sample : Nat) (s : State) :
    ((acquireCompleted sample s).2).outputDutyFiltered = s.outputDutyFiltered := rfl
@[simp] theorem acquireCompleted_outputEnabled (sample : Nat) (s : State) :
    ((acquireCompleted sample s).2).outputEnabled = s.outputEnabled := rfl
@[simp] theorem acquireCompleted_hystOn (sample : Nat) (s : State) :
    ((acquireCompleted sample s).2).hystOn = s.hystOn := rfl
@[simp] theorem acquireCompleted_error0 (sample : Nat) (s : State) :
    ((acquireCompleted sample s).2).error0 = s.error0 := rfl
@[simp] theorem acquireCompleted_error1 (sample : Nat) (s : State) :
    ((acquireCompleted sample s).2).error1 = s.error1 := rfl
@[simp] theorem acquireCompleted_error2 (sample : Nat) (s : State) :
    ((acquireCompleted sample s).2).error2 = s.error2 := rfl
@[simp] theorem acquireCompleted_integral (sample : Nat) (s : State) :
    ((acquireCompleted sample s).2).integral = s.integral := rfl
@[simp] theorem acquireCompleted_derivative (sample : Nat) (s : State) :
    ((acquireCompleted sample s).2).derivative = s.derivative := rfl
@[simp] theorem acquireCompleted_ironDisconnected (sample : Nat) (s : State) :
    ((acquireCompleted sample s).2).ironDisconnected = s.ironDisconnected := rfl
@[simp] theorem acquireCompleted_ironInHolder (sample : Nat) (s : State) :
    ((acquireCompleted sample s).2).ironInHolder = s.ironInHolder := rfl
@[simp] theorem acquireCompleted_blinkPhase (sample : Nat) (s : State) :
    ((acquireCompleted sample s).2).blinkPhase = s.blinkPhase := rfl
@[simp] theorem acquireCompleted_modeState (sample : Nat) (s : State) :
    ((acquireCompleted sample s).2).modeState = s.modeState := rfl
@[simp] theorem acquireCompleted_setpoint (sample : Nat) (s : State) :
    ((acquireCompleted sample s).2).setpoint = s.setpoint := rfl
@[simp] theorem acquireCompleted_backupSetpoint (sample : Nat) (s : State) :
    ((acquireCompleted sample s).2).backupSetpoint = s.backupSetpoint := rfl
@[simp] theorem acquireCompleted_holdPeriods (sample : Nat) (s : State) :
    ((acquireCompleted sample s).2).holdPeriods = s.holdPeriods := rfl
@[simp] theorem acquireCompleted_dispSetpoint (sample : Nat) (s : State) :
    ((acquireCompleted sample s).2).dispSetpoint = s.dispSetpoint := rfl
@[simp] theorem acquireCompleted_dispTemp (sample : Nat) (s : State) :
    ((acquireCompleted sample s).2).dispTemp = s.dispTemp := rfl
@[simp] theorem acquireCompleted_dispDuty (sample : Nat) (s : State) :
    ((acquireCompleted sample s).2).dispDuty = s.dispDuty := rfl
@[simp] theorem acquireCompleted_msClock (sample : Nat) (s : State) :
    ((acquireCompleted sample s).2).msClock = s.msClock := rfl
@[simp] theorem acquireCompleted_blinkMs (sample : Nat) (s : State) :
    ((acquireCompleted sample s).2).blinkMs = s.blinkMs := rfl
@[simp] theorem acquireCompleted_kp100 (sample : Nat) (s : State) :
    ((acquireCompleted sample s).2).kp100 = s.kp100 := rfl
@[simp] theorem acquireCompleted_ki100 (sample : Nat) (s : State) :
    ((acquireCompleted sample s).2).ki100 = s.ki100 := rfl
@[simp] theorem acquireCompleted_kd100 (sample : Nat) (s : State) :
    ((acquireCompleted sample s).2).kd100 = s.kd100 := rfl
@[simp] theorem acquireCompleted_out (sample : Nat) (s : State) :
    ((acquireCompleted sample s).2).out = s.out := rfl
@[simp] theorem acquireCompleted_trace (sample : Nat) (s : State) :
    ((acquireCompleted sample s).2).trace = s.trace := rfl
@[simp] theorem acquireCompleted_config (sample : Nat) (s : State) :
    ((acquireCompleted sample s).2).config = s.config := rfl

/-! ### `acquire` writes the temperatures, the warm-up counter and two flags -/

@[simp] theorem acquire_slot (sample : Nat) (adcOk : Bool) (s : State) :
    (acquire sample adcOk s).2.slot = s.slot := by unfold acquire; split <;> simp
@[simp] theorem acquire_pin (sample : Nat) (adcOk : Bool) (s : State) :
    (acquire sample adcOk s).2.pin = s.pin := by unfold acquire; split <;> simp
@[simp] theorem acquire_outputDuty (sample : Nat) (adcOk : Bool) (s : State) :
    (acquire sample adcOk s).2.outputDuty = s.outputDuty := by unfold acquire; split <;> simp
@[simp] theorem acquire_outputDutyFiltered (sample : Nat) (adcOk : Bool) (s : State) :
    (acquire sample adcOk s).2.outputDutyFiltered = s.outputDutyFiltered := by unfold acquire; split <;> simp
@[simp] theorem acquire_outputEnabled (sample : Nat) (adcOk : Bool) (s : State) :
    (acquire sample adcOk s).2.outputEnabled = s.outputEnabled := by unfold acquire; split <;> simp
@[simp] theorem acquire_hystOn (sample : Nat) (adcOk : Bool) (s : State) :
    (acquire sample adcOk s).2.hystOn = s.hystOn := by unfold acquire; split <;> simp
@[simp] theorem acquire_error0 (sample : Nat) (adcOk : Bool) (s : State) :
    (acquire sample adcOk s).2.error0 = s.error0 := by unfold acquire; split <;> simp
@[simp] theorem acquire_error1 (sample : Nat) (adcOk : Bool) (s : State) :
    (acquire sample adcOk s).2.error1 = s.error1 := by unfold acquire; split <;> simp
@[simp] theorem acquire_error2 (sample : Nat) (adcOk : Bool) (s : State) :
    (acquire sample adcOk s).2.error2 = s.error2 := by unfold acquire; split <;> simp
@[simp] theorem acquire_integral (sample : Nat) (adcOk : Bool) (s : State) :
    (acquire sample adcOk s).2.integral = s.integral := by unfold acquire; split <;> simp
@[simp] theorem acquire_derivative (sample : Nat) (adcOk : Bool) (s : State) :
    (acquire sample adcOk s).2.derivative = s.derivative := by unfold acquire; split <;> simp
@[simp] theorem acquire_ironDisconnected (sample : Nat) (adcOk : Bool) (s : State) :
    (acquire sample adcOk s).2.ironDisconnected = s.ironDisconnected := by
  unfold acquire acquisitionFailure
  by_cases ha : adcOk = false <;> by_cases hs : Const.tipThreshold < sample <;> simp [ha, hs]
@[simp] theorem acquire_ironInHolder (sample : Nat) (adcOk : Bool) (s : State) :
    (acquire sample adcOk s).2.ironInHolder = s.ironInHolder := by unfold acquire; split <;> simp
@[simp] theorem acquire_blinkPhase (sample : Nat) (adcOk : Bool) (s : State) :
    (acquire sample adcOk s).2.blinkPhase = s.blinkPhase := by unfold acquire; split <;> simp
@[simp] theorem acquire_modeState (sample : Nat) (adcOk : Bool) (s : State) :
    (acquire sample adcOk s).2.modeState = s.modeState := by unfold acquire; split <;> simp
@[simp] theorem acquire_setpoint (sample : Nat) (adcOk : Bool) (s : State) :
    (acquire sample adcOk s).2.setpoint = s.setpoint := by unfold acquire; split <;> simp
@[simp] theorem acquire_backupSetpoint (sample : Nat) (adcOk : Bool) (s : State) :
    (acquire sample adcOk s).2.backupSetpoint = s.backupSetpoint := by unfold acquire; split <;> simp
@[simp] theorem acquire_holdPeriods (sample : Nat) (adcOk : Bool) (s : State) :
    (acquire sample adcOk s).2.holdPeriods = s.holdPeriods := by unfold acquire; split <;> simp
@[simp] theorem acquire_dispSetpoint (sample : Nat) (adcOk : Bool) (s : State) :
    (acquire sample adcOk s).2.dispSetpoint = s.dispSetpoint := by unfold acquire; split <;> simp
@[simp] theorem acquire_dispTemp (sample : Nat) (adcOk : Bool) (s : State) :
    (acquire sample adcOk s).2.dispTemp = s.dispTemp := by unfold acquire; split <;> simp
@[simp] theorem acquire_dispDuty (sample : Nat) (adcOk : Bool) (s : State) :
    (acquire sample adcOk s).2.dispDuty = s.dispDuty := by unfold acquire; split <;> simp
@[simp] theorem acquire_msClock (sample : Nat) (adcOk : Bool) (s : State) :
    (acquire sample adcOk s).2.msClock = s.msClock := by unfold acquire; split <;> simp
@[simp] theorem acquire_blinkMs (sample : Nat) (adcOk : Bool) (s : State) :
    (acquire sample adcOk s).2.blinkMs = s.blinkMs := by unfold acquire; split <;> simp
@[simp] theorem acquire_kp100 (sample : Nat) (adcOk : Bool) (s : State) :
    (acquire sample adcOk s).2.kp100 = s.kp100 := by unfold acquire; split <;> simp
@[simp] theorem acquire_ki100 (sample : Nat) (adcOk : Bool) (s : State) :
    (acquire sample adcOk s).2.ki100 = s.ki100 := by unfold acquire; split <;> simp
@[simp] theorem acquire_kd100 (sample : Nat) (adcOk : Bool) (s : State) :
    (acquire sample adcOk s).2.kd100 = s.kd100 := by unfold acquire; split <;> simp
@[simp] theorem acquire_out (sample : Nat) (adcOk : Bool) (s : State) :
    (acquire sample adcOk s).2.out = s.out := by unfold acquire; split <;> simp
@[simp] theorem acquire_trace (sample : Nat) (adcOk : Bool) (s : State) :
    (acquire sample adcOk s).2.trace = s.trace := by unfold acquire; split <;> simp
@[simp] theorem acquire_config (sample : Nat) (adcOk : Bool) (s : State) :
    (acquire sample adcOk s).2.config = s.config := by unfold acquire; split <;> simp

/-! ### `hostWrite` writes a gain register or nothing -/

@[simp] theorem hostWrite_slot (reg : HostReg) (data : Half) (s : State) : (hostWrite reg data s).slot = s.slot := by cases reg <;> rfl
@[simp] theorem hostWrite_pin (reg : HostReg) (data : Half) (s : State) : (hostWrite reg data s).pin = s.pin := by cases reg <;> rfl
@[simp] theorem hostWrite_outputDuty (reg : HostReg) (data : Half) (s : State) : (hostWrite reg data s).outputDuty = s.outputDuty := by cases reg <;> rfl
@[simp] theorem hostWrite_outputDutyFiltered (reg : HostReg) (data : Half) (s : State) : (hostWrite reg data s).outputDutyFiltered = s.outputDutyFiltered := by cases reg <;> rfl
@[simp] theorem hostWrite_outputEnabled (reg : HostReg) (data : Half) (s : State) : (hostWrite reg data s).outputEnabled = s.outputEnabled := by cases reg <;> rfl
@[simp] theorem hostWrite_warmup (reg : HostReg) (data : Half) (s : State) : (hostWrite reg data s).warmup = s.warmup := by cases reg <;> rfl
@[simp] theorem hostWrite_hystOn (reg : HostReg) (data : Half) (s : State) : (hostWrite reg data s).hystOn = s.hystOn := by cases reg <;> rfl
@[simp] theorem hostWrite_measuredTemperature (reg : HostReg) (data : Half) (s : State) : (hostWrite reg data s).measuredTemperature = s.measuredTemperature := by cases reg <;> rfl
@[simp] theorem hostWrite_filteredTemperature (reg : HostReg) (data : Half) (s : State) : (hostWrite reg data s).filteredTemperature = s.filteredTemperature := by cases reg <;> rfl
@[simp] theorem hostWrite_error0 (reg : HostReg) (data : Half) (s : State) : (hostWrite reg data s).error0 = s.error0 := by cases reg <;> rfl
@[simp] theorem hostWrite_error1 (reg : HostReg) (data : Half) (s : State) : (hostWrite reg data s).error1 = s.error1 := by cases reg <;> rfl
@[simp] theorem hostWrite_error2 (reg : HostReg) (data : Half) (s : State) : (hostWrite reg data s).error2 = s.error2 := by cases reg <;> rfl
@[simp] theorem hostWrite_integral (reg : HostReg) (data : Half) (s : State) : (hostWrite reg data s).integral = s.integral := by cases reg <;> rfl
@[simp] theorem hostWrite_derivative (reg : HostReg) (data : Half) (s : State) : (hostWrite reg data s).derivative = s.derivative := by cases reg <;> rfl
@[simp] theorem hostWrite_tipRemoved (reg : HostReg) (data : Half) (s : State) : (hostWrite reg data s).tipRemoved = s.tipRemoved := by cases reg <;> rfl
@[simp] theorem hostWrite_ironDisconnected (reg : HostReg) (data : Half) (s : State) : (hostWrite reg data s).ironDisconnected = s.ironDisconnected := by cases reg <;> rfl
@[simp] theorem hostWrite_ironInHolder (reg : HostReg) (data : Half) (s : State) : (hostWrite reg data s).ironInHolder = s.ironInHolder := by cases reg <;> rfl
@[simp] theorem hostWrite_runaway (reg : HostReg) (data : Half) (s : State) : (hostWrite reg data s).runaway = s.runaway := by cases reg <;> rfl
@[simp] theorem hostWrite_blinkPhase (reg : HostReg) (data : Half) (s : State) : (hostWrite reg data s).blinkPhase = s.blinkPhase := by cases reg <;> rfl
@[simp] theorem hostWrite_modeState (reg : HostReg) (data : Half) (s : State) : (hostWrite reg data s).modeState = s.modeState := by cases reg <;> rfl
@[simp] theorem hostWrite_setpoint (reg : HostReg) (data : Half) (s : State) : (hostWrite reg data s).setpoint = s.setpoint := by cases reg <;> rfl
@[simp] theorem hostWrite_backupSetpoint (reg : HostReg) (data : Half) (s : State) : (hostWrite reg data s).backupSetpoint = s.backupSetpoint := by cases reg <;> rfl
@[simp] theorem hostWrite_holdPeriods (reg : HostReg) (data : Half) (s : State) : (hostWrite reg data s).holdPeriods = s.holdPeriods := by cases reg <;> rfl
@[simp] theorem hostWrite_dispSetpoint (reg : HostReg) (data : Half) (s : State) : (hostWrite reg data s).dispSetpoint = s.dispSetpoint := by cases reg <;> rfl
@[simp] theorem hostWrite_dispTemp (reg : HostReg) (data : Half) (s : State) : (hostWrite reg data s).dispTemp = s.dispTemp := by cases reg <;> rfl
@[simp] theorem hostWrite_dispDuty (reg : HostReg) (data : Half) (s : State) : (hostWrite reg data s).dispDuty = s.dispDuty := by cases reg <;> rfl
@[simp] theorem hostWrite_msClock (reg : HostReg) (data : Half) (s : State) : (hostWrite reg data s).msClock = s.msClock := by cases reg <;> rfl
@[simp] theorem hostWrite_blinkMs (reg : HostReg) (data : Half) (s : State) : (hostWrite reg data s).blinkMs = s.blinkMs := by cases reg <;> rfl
@[simp] theorem hostWrite_out (reg : HostReg) (data : Half) (s : State) : (hostWrite reg data s).out = s.out := by cases reg <;> rfl
@[simp] theorem hostWrite_trace (reg : HostReg) (data : Half) (s : State) : (hostWrite reg data s).trace = s.trace := by cases reg <;> rfl
@[simp] theorem hostWrite_config (reg : HostReg) (data : Half) (s : State) : (hostWrite reg data s).config = s.config := by cases reg <;> rfl

end Sys2Proof.Laws
end

