-- ==== Sys2Proof/Laws/Ops.lean ====
section
/-! SUPPORT. What each shared operation can do, said once: an operation that branches has one lemma for each branch, and
the fields no branch writes. -/

namespace Sys2Proof.Laws
open Sys2Proof.Machine

/-! ### Flag computations, with the constants of spec/00_scope.md R7 as numerals -/

theorem driveLevel_eq (enabled : Bool) (slot : Fin 11) (duty : Nat) :
    driveLevel enabled slot duty = (enabled && decide (1 ≤ slot.val) && decide (slot.val ≤ duty / 10)) := rfl

theorem runawayTest_eq (filtered : Int) (setpoint : Nat) :
    runawayTest filtered setpoint = decide (10 * filtered > 11 * (setpoint : Int)) := rfl

theorem nextWarmup_eq (w : Fin 4) : nextWarmup w = if w.val < 3 then w + 1 else w := rfl

theorem isWarm_eq (w : Fin 4) : isWarm w = decide (w.val = 3) := rfl

theorem nextHystOn_eq (filtered : Int) (setpoint : Nat) (held : Bool) :
    nextHystOn filtered setpoint held =
      if filtered ≤ setpoint - 5 then true else if filtered ≥ setpoint + 5 then false else held := rfl

/-- The counter saturates at 3. -/
theorem nextWarmup_val (w : Fin 4) : (nextWarmup w).val = min (w.val + 1) 3 := by revert w; decide

@[simp] theorem driveLevel_slot_zero (enabled : Bool) (duty : Nat) : driveLevel enabled 0 duty = false := by
  simp [driveLevel]

@[simp] theorem driveLevel_disabled (slot : Fin 11) (duty : Nat) : driveLevel false slot duty = false := rfl

theorem driveLevel_eq_true {enabled : Bool} {slot : Fin 11} {duty : Nat} :
    driveLevel enabled slot duty = true ↔ enabled = true ∧ 1 ≤ slot.val ∧ slot.val ≤ duty / 10 := by
  simp [driveLevel_eq, and_assoc]

/-- An acquisition completes exactly when a sample arrived and it is not above the threshold. -/
theorem acquisitionFailure_eq_none {sample : Nat} {adcOk : Bool} :
    acquisitionFailure sample adcOk = none ↔ adcOk = true ∧ sample ≤ 3500 := by
  unfold acquisitionFailure
  cases adcOk <;> simp [Const.tipThreshold]

theorem acquisitionFailure_timeout (sample : Nat) : acquisitionFailure sample false = some .adcTimeout := rfl

theorem acquisitionFailure_range {sample : Nat} (h : 3500 < sample) :
    acquisitionFailure sample true = some .sensorRange := by
  simp [acquisitionFailure, Const.tipThreshold, h]

/-- The two conditions of an acquisition have one record. -/
theorem setCondition_of_failure {sample : Nat} {adcOk : Bool} {c : Condition}
    (h : acquisitionFailure sample adcOk = some c) (b : Bool) (s : State) :
    setCondition c b s = { s with tipRemoved := b } := by
  unfold acquisitionFailure at h
  split at h
  · obtain rfl := Option.some.inj h; rfl
  · split at h
    · obtain rfl := Option.some.inj h; rfl
    · exact absurd h (by simp)

/-! ### `acquire` -/

/-- A failed acquisition records tip removal, ends a runaway and asks for no enable (spec/41_acquisition.md R131). -/
theorem acquire_failed {sample : Nat} {adcOk : Bool} (h : ¬ (adcOk = true ∧ sample ≤ 3500)) (s : State) :
    acquire sample adcOk s = (false, { s with tipRemoved := true, runaway := false }) := by
  unfold acquire
  split
  · simp [setCondition_of_failure ‹_›]
  · exact absurd (acquisitionFailure_eq_none.1 ‹_›) h

/-- A completed acquisition (spec/41_acquisition.md R132 to R137). -/
theorem acquire_completed {sample : Nat} {adcOk : Bool} (h : adcOk = true ∧ sample ≤ 3500) (s : State) :
    acquire sample adcOk s = acquireCompleted sample s := by
  unfold acquire
  rw [acquisitionFailure_eq_none.2 h]

/-- What an acquisition leaves in `tipRemoved`. -/
@[simp] theorem acquire_tipRemoved (sample : Nat) (adcOk : Bool) (s : State) :
    (acquire sample adcOk s).2.tipRemoved = !(adcOk && decide (sample ≤ 3500)) := by
  by_cases h : adcOk = true ∧ sample ≤ 3500
  · rw [acquire_completed h]; simp [h]
  · rw [acquire_failed h]
    rcases not_and_or.1 h with h | h <;> simp [h]

/-- An enable is asked for by a completed, warm acquisition without a runaway (spec/41_acquisition.md R137). -/
theorem acquire_enableReq (sample : Nat) (adcOk : Bool) (s : State) :
    (acquire sample adcOk s).1 = true ↔
      (adcOk = true ∧ sample ≤ 3500) ∧ s.warmup.val = 3 ∧ (acquire sample adcOk s).2.runaway = false := by
  by_cases h : adcOk = true ∧ sample ≤ 3500
  · rw [acquire_completed h]; simp [h, acquireCompleted, isWarm_eq]
  · simp [acquire_failed h, h]

/-! ### `safety` -/

/-- A safety flag forces the output off (spec/40_sequencer.md R116). -/
theorem safety_forced {disc holder enableReq : Bool} {s : State} (h : s.tipRemoved = true ∨ disc = true) :
    safety disc holder enableReq s = forceOff (latchLevels disc holder s) := by
  unfold safety
  rcases h with h | h <;> simp [h]

/-- Without a safety flag the enable is what the acquisition asked for (spec/40_sequencer.md R116). -/
theorem safety_free {holder enableReq : Bool} {s : State} (h : s.tipRemoved = false) :
    safety false holder enableReq s = { latchLevels false holder s with outputEnabled := enableReq } := by
  unfold safety
  simp [h]

/-! ### `evaluate` -/

/-- An evaluation whose acquisition fails changes the flags and forces the output off, nothing else
(spec/40_sequencer.md R114). -/
theorem evaluate_failed {sample : Nat} {adcOk : Bool} (h : ¬ (adcOk = true ∧ sample ≤ 3500)) (disc holder : Bool)
    (s : State) :
    evaluate sample adcOk disc holder s =
      forceOff (latchLevels disc holder { s with tipRemoved := true, runaway := false }) := by
  unfold evaluate
  simp [acquire_failed h, safety_forced]

/-- An evaluation whose acquisition completes runs the control law and the output filter on what the acquisition left,
then the safety-flag update (spec/40_sequencer.md R114, R115). -/
theorem evaluate_completed {sample : Nat} {adcOk : Bool} (h : adcOk = true ∧ sample ≤ 3500) (disc holder : Bool)
    (s : State) :
    evaluate sample adcOk disc holder s =
      safety disc holder (acquireCompleted sample s).1 (outFilter (controlLaw (acquireCompleted sample s).2)) := by
  unfold evaluate
  simp [acquire_completed h]

/-! ### The two policies -/

theorem controlLaw_pid {s : State} (h : s.cfg.policy = .pid) : controlLaw s = controlPid s := by
  unfold controlLaw; rw [h]

theorem controlLaw_hyst {s : State} (h : s.cfg.policy = .hyst) : controlLaw s = controlHyst s := by
  unfold controlLaw; rw [h]

/-- Either policy leaves a legal duty (spec/10_state.md R24). -/
theorem controlLaw_duty_legal (s : State) : 10 ∣ (controlLaw s).outputDuty ∧ (controlLaw s).outputDuty ≤ 100 := by
  unfold controlLaw
  split
  · exact quantiseDuty_legal _
  · simp only [controlHyst]; split <;> simp [Const.dutyMax]

/-! ### The edges -/

/-- The measurement edge of slot 0 evaluates, and the pin is off after it (spec/40_sequencer.md R111). -/
theorem measurementEdge_slot_zero {s : State} (h : s.slot = 0) (sample : Nat) (adcOk disc holder : Bool) :
    measurementEdge sample adcOk disc holder s =
      drive (evaluate sample adcOk disc holder (startConversion s)) := by
  unfold measurementEdge
  rw [if_pos h]; rfl

/-- The measurement edge of another slot only recomputes the pin (spec/40_sequencer.md R111). -/
theorem measurementEdge_other_slot {s : State} (h : s.slot ≠ 0) (sample : Nat) (adcOk disc holder : Bool) :
    measurementEdge sample adcOk disc holder s = drive (beginOp s) := by
  unfold measurementEdge
  rw [if_neg h]

/-! ### The tick -/

/-- A tick at a blink-period boundary (spec/44_tick_host.md R211). -/
theorem tickOnce_boundary {s : State} (h : s.blinkMs + 1 = s.cfg.blinkPeriodMs) :
    tickOnce s =
      { s with
        out := {}, msClock := s.msClock + 1, blinkMs := 0, blinkPhase := !s.blinkPhase
        holdPeriods := s.holdPeriods - 1 } := by
  unfold tickOnce
  simp only [beginOp, h, if_true]
  congr 1
  rcases Nat.eq_zero_or_pos s.holdPeriods with hp | hp <;> simp [hp]

/-- A tick between two boundaries (spec/44_tick_host.md R211). -/
theorem tickOnce_between {s : State} (h : s.blinkMs + 1 ≠ s.cfg.blinkPeriodMs) :
    tickOnce s = { s with out := {}, msClock := s.msClock + 1, blinkMs := s.blinkMs + 1 } := by
  unfold tickOnce
  simp [h, beginOp]

/-! ### The host register space -/

/-- A write to a read-only register is ignored (spec/44_tick_host.md R214). -/
theorem hostWrite_readOnly {reg : HostReg} (h0 : reg ≠ .kp100) (h1 : reg ≠ .ki100) (h2 : reg ≠ .kd100) (data : Half)
    (s : State) : hostWrite reg data s = s := by
  cases reg <;> first | rfl | contradiction

/-- A register reads back what the same register takes from a write, for the three that take one. -/
theorem hostRead_hostWrite {reg : HostReg} (h : reg = .kp100 ∨ reg = .ki100 ∨ reg = .kd100) (data : Half) (s : State) :
    hostRead reg (hostWrite reg data s) = data := by
  rcases h with rfl | rfl | rfl <;> rfl

/-! ### Fields no branch writes -/

@[simp] theorem evaluate_slot (sample : Nat) (adcOk disc holder : Bool) (s : State) :
    (evaluate sample adcOk disc holder s).slot = s.slot := by unfold evaluate; simp only [safety_slot]; split <;> simp
@[simp] theorem evaluate_pin (sample : Nat) (adcOk disc holder : Bool) (s : State) :
    (evaluate sample adcOk disc holder s).pin = s.pin := by unfold evaluate; simp only [safety_pin]; split <;> simp
@[simp] theorem evaluate_error2 (sample : Nat) (adcOk disc holder : Bool) (s : State) :
    (evaluate sample adcOk disc holder s).error2 = s.error2 := by unfold evaluate; simp only [safety_error2]; split <;> simp
@[simp] theorem evaluate_blinkPhase (sample : Nat) (adcOk disc holder : Bool) (s : State) :
    (evaluate sample adcOk disc holder s).blinkPhase = s.blinkPhase := by unfold evaluate; simp only [safety_blinkPhase]; split <;> simp
@[simp] theorem evaluate_modeState (sample : Nat) (adcOk disc holder : Bool) (s : State) :
    (evaluate sample adcOk disc holder s).modeState = s.modeState := by unfold evaluate; simp only [safety_modeState]; split <;> simp
@[simp] theorem evaluate_setpoint (sample : Nat) (adcOk disc holder : Bool) (s : State) :
    (evaluate sample adcOk disc holder s).setpoint = s.setpoint := by unfold evaluate; simp only [safety_setpoint]; split <;> simp
@[simp] theorem evaluate_backupSetpoint (sample : Nat) (adcOk disc holder : Bool) (s : State) :
    (evaluate sample adcOk disc holder s).backupSetpoint = s.backupSetpoint := by unfold evaluate; simp only [safety_backupSetpoint]; split <;> simp
@[simp] theorem evaluate_holdPeriods (sample : Nat) (adcOk disc holder : Bool) (s : State) :
    (evaluate sample adcOk disc holder s).holdPeriods = s.holdPeriods := by unfold evaluate; simp only [safety_holdPeriods]; split <;> simp
@[simp] theorem evaluate_dispSetpoint (sample : Nat) (adcOk disc holder : Bool) (s : State) :
    (evaluate sample adcOk disc holder s).dispSetpoint = s.dispSetpoint := by unfold evaluate; simp only [safety_dispSetpoint]; split <;> simp
@[simp] theorem evaluate_dispTemp (sample : Nat) (adcOk disc holder : Bool) (s : State) :
    (evaluate sample adcOk disc holder s).dispTemp = s.dispTemp := by unfold evaluate; simp only [safety_dispTemp]; split <;> simp
@[simp] theorem evaluate_dispDuty (sample : Nat) (adcOk disc holder : Bool) (s : State) :
    (evaluate sample adcOk disc holder s).dispDuty = s.dispDuty := by unfold evaluate; simp only [safety_dispDuty]; split <;> simp
@[simp] theorem evaluate_msClock (sample : Nat) (adcOk disc holder : Bool) (s : State) :
    (evaluate sample adcOk disc holder s).msClock = s.msClock := by unfold evaluate; simp only [safety_msClock]; split <;> simp
@[simp] theorem evaluate_blinkMs (sample : Nat) (adcOk disc holder : Bool) (s : State) :
    (evaluate sample adcOk disc holder s).blinkMs = s.blinkMs := by unfold evaluate; simp only [safety_blinkMs]; split <;> simp
@[simp] theorem evaluate_kp100 (sample : Nat) (adcOk disc holder : Bool) (s : State) :
    (evaluate sample adcOk disc holder s).kp100 = s.kp100 := by unfold evaluate; simp only [safety_kp100]; split <;> simp
@[simp] theorem evaluate_ki100 (sample : Nat) (adcOk disc holder : Bool) (s : State) :
    (evaluate sample adcOk disc holder s).ki100 = s.ki100 := by unfold evaluate; simp only [safety_ki100]; split <;> simp
@[simp] theorem evaluate_kd100 (sample : Nat) (adcOk disc holder : Bool) (s : State) :
    (evaluate sample adcOk disc holder s).kd100 = s.kd100 := by unfold evaluate; simp only [safety_kd100]; split <;> simp
@[simp] theorem evaluate_out (sample : Nat) (adcOk disc holder : Bool) (s : State) :
    (evaluate sample adcOk disc holder s).out = s.out := by unfold evaluate; simp only [safety_out]; split <;> simp
@[simp] theorem evaluate_trace (sample : Nat) (adcOk disc holder : Bool) (s : State) :
    (evaluate sample adcOk disc holder s).trace = s.trace := by unfold evaluate; simp only [safety_trace]; split <;> simp
@[simp] theorem evaluate_config (sample : Nat) (adcOk disc holder : Bool) (s : State) :
    (evaluate sample adcOk disc holder s).config = s.config := by unfold evaluate; simp only [safety_config]; split <;> simp

@[simp] theorem measurementEdge_slot (sample : Nat) (adcOk disc holder : Bool) (s : State) :
    (measurementEdge sample adcOk disc holder s).slot = s.slot := by unfold measurementEdge; split <;> simp
@[simp] theorem measurementEdge_error2 (sample : Nat) (adcOk disc holder : Bool) (s : State) :
    (measurementEdge sample adcOk disc holder s).error2 = s.error2 := by unfold measurementEdge; split <;> simp
@[simp] theorem measurementEdge_blinkPhase (sample : Nat) (adcOk disc holder : Bool) (s : State) :
    (measurementEdge sample adcOk disc holder s).blinkPhase = s.blinkPhase := by unfold measurementEdge; split <;> simp
@[simp] theorem measurementEdge_modeState (sample : Nat) (adcOk disc holder : Bool) (s : State) :
    (measurementEdge sample adcOk disc holder s).modeState = s.modeState := by unfold measurementEdge; split <;> simp
@[simp] theorem measurementEdge_setpoint (sample : Nat) (adcOk disc holder : Bool) (s : State) :
    (measurementEdge sample adcOk disc holder s).setpoint = s.setpoint := by unfold measurementEdge; split <;> simp
@[simp] theorem measurementEdge_backupSetpoint (sample : Nat) (adcOk disc holder : Bool) (s : State) :
    (measurementEdge sample adcOk disc holder s).backupSetpoint = s.backupSetpoint := by unfold measurementEdge; split <;> simp
@[simp] theorem measurementEdge_holdPeriods (sample : Nat) (adcOk disc holder : Bool) (s : State) :
    (measurementEdge sample adcOk disc holder s).holdPeriods = s.holdPeriods := by unfold measurementEdge; split <;> simp
@[simp] theorem measurementEdge_dispSetpoint (sample : Nat) (adcOk disc holder : Bool) (s : State) :
    (measurementEdge sample adcOk disc holder s).dispSetpoint = s.dispSetpoint := by unfold measurementEdge; split <;> simp
@[simp] theorem measurementEdge_dispTemp (sample : Nat) (adcOk disc holder : Bool) (s : State) :
    (measurementEdge sample adcOk disc holder s).dispTemp = s.dispTemp := by unfold measurementEdge; split <;> simp
@[simp] theorem measurementEdge_dispDuty (sample : Nat) (adcOk disc holder : Bool) (s : State) :
    (measurementEdge sample adcOk disc holder s).dispDuty = s.dispDuty := by unfold measurementEdge; split <;> simp
@[simp] theorem measurementEdge_msClock (sample : Nat) (adcOk disc holder : Bool) (s : State) :
    (measurementEdge sample adcOk disc holder s).msClock = s.msClock := by unfold measurementEdge; split <;> simp
@[simp] theorem measurementEdge_blinkMs (sample : Nat) (adcOk disc holder : Bool) (s : State) :
    (measurementEdge sample adcOk disc holder s).blinkMs = s.blinkMs := by unfold measurementEdge; split <;> simp
@[simp] theorem measurementEdge_kp100 (sample : Nat) (adcOk disc holder : Bool) (s : State) :
    (measurementEdge sample adcOk disc holder s).kp100 = s.kp100 := by unfold measurementEdge; split <;> simp
@[simp] theorem measurementEdge_ki100 (sample : Nat) (adcOk disc holder : Bool) (s : State) :
    (measurementEdge sample adcOk disc holder s).ki100 = s.ki100 := by unfold measurementEdge; split <;> simp
@[simp] theorem measurementEdge_kd100 (sample : Nat) (adcOk disc holder : Bool) (s : State) :
    (measurementEdge sample adcOk disc holder s).kd100 = s.kd100 := by unfold measurementEdge; split <;> simp
@[simp] theorem measurementEdge_trace (sample : Nat) (adcOk disc holder : Bool) (s : State) :
    (measurementEdge sample adcOk disc holder s).trace = s.trace := by unfold measurementEdge; split <;> simp
@[simp] theorem measurementEdge_config (sample : Nat) (adcOk disc holder : Bool) (s : State) :
    (measurementEdge sample adcOk disc holder s).config = s.config := by unfold measurementEdge; split <;> simp

@[simp] theorem tickOnce_pin (s : State) : (tickOnce s).pin = s.pin := by unfold tickOnce; simp only; split <;> rfl
@[simp] theorem tickOnce_slot (s : State) : (tickOnce s).slot = s.slot := by unfold tickOnce; simp only; split <;> rfl
@[simp] theorem tickOnce_outputDuty (s : State) : (tickOnce s).outputDuty = s.outputDuty := by unfold tickOnce; simp only; split <;> rfl
@[simp] theorem tickOnce_outputDutyFiltered (s : State) : (tickOnce s).outputDutyFiltered = s.outputDutyFiltered := by unfold tickOnce; simp only; split <;> rfl
@[simp] theorem tickOnce_outputEnabled (s : State) : (tickOnce s).outputEnabled = s.outputEnabled := by unfold tickOnce; simp only; split <;> rfl
@[simp] theorem tickOnce_warmup (s : State) : (tickOnce s).warmup = s.warmup := by unfold tickOnce; simp only; split <;> rfl
@[simp] theorem tickOnce_hystOn (s : State) : (tickOnce s).hystOn = s.hystOn := by unfold tickOnce; simp only; split <;> rfl
@[simp] theorem tickOnce_measuredTemperature (s : State) : (tickOnce s).measuredTemperature = s.measuredTemperature := by unfold tickOnce; simp only; split <;> rfl
@[simp] theorem tickOnce_filteredTemperature (s : State) : (tickOnce s).filteredTemperature = s.filteredTemperature := by unfold tickOnce; simp only; split <;> rfl
@[simp] theorem tickOnce_error0 (s : State) : (tickOnce s).error0 = s.error0 := by unfold tickOnce; simp only; split <;> rfl
@[simp] theorem tickOnce_error1 (s : State) : (tickOnce s).error1 = s.error1 := by unfold tickOnce; simp only; split <;> rfl
@[simp] theorem tickOnce_error2 (s : State) : (tickOnce s).error2 = s.error2 := by unfold tickOnce; simp only; split <;> rfl
@[simp] theorem tickOnce_integral (s : State) : (tickOnce s).integral = s.integral := by unfold tickOnce; simp only; split <;> rfl
@[simp] theorem tickOnce_derivative (s : State) : (tickOnce s).derivative = s.derivative := by unfold tickOnce; simp only; split <;> rfl
@[simp] theorem tickOnce_tipRemoved (s : State) : (tickOnce s).tipRemoved = s.tipRemoved := by unfold tickOnce; simp only; split <;> rfl
@[simp] theorem tickOnce_ironDisconnected (s : State) : (tickOnce s).ironDisconnected = s.ironDisconnected := by unfold tickOnce; simp only; split <;> rfl
@[simp] theorem tickOnce_ironInHolder (s : State) : (tickOnce s).ironInHolder = s.ironInHolder := by unfold tickOnce; simp only; split <;> rfl
@[simp] theorem tickOnce_runaway (s : State) : (tickOnce s).runaway = s.runaway := by unfold tickOnce; simp only; split <;> rfl
@[simp] theorem tickOnce_modeState (s : State) : (tickOnce s).modeState = s.modeState := by unfold tickOnce; simp only; split <;> rfl
@[simp] theorem tickOnce_setpoint (s : State) : (tickOnce s).setpoint = s.setpoint := by unfold tickOnce; simp only; split <;> rfl
@[simp] theorem tickOnce_backupSetpoint (s : State) : (tickOnce s).backupSetpoint = s.backupSetpoint := by unfold tickOnce; simp only; split <;> rfl
@[simp] theorem tickOnce_dispSetpoint (s : State) : (tickOnce s).dispSetpoint = s.dispSetpoint := by unfold tickOnce; simp only; split <;> rfl
@[simp] theorem tickOnce_dispTemp (s : State) : (tickOnce s).dispTemp = s.dispTemp := by unfold tickOnce; simp only; split <;> rfl
@[simp] theorem tickOnce_dispDuty (s : State) : (tickOnce s).dispDuty = s.dispDuty := by unfold tickOnce; simp only; split <;> rfl
@[simp] theorem tickOnce_kp100 (s : State) : (tickOnce s).kp100 = s.kp100 := by unfold tickOnce; simp only; split <;> rfl
@[simp] theorem tickOnce_ki100 (s : State) : (tickOnce s).ki100 = s.ki100 := by unfold tickOnce; simp only; split <;> rfl
@[simp] theorem tickOnce_kd100 (s : State) : (tickOnce s).kd100 = s.kd100 := by unfold tickOnce; simp only; split <;> rfl
@[simp] theorem tickOnce_trace (s : State) : (tickOnce s).trace = s.trace := by unfold tickOnce; simp only; split <;> rfl
@[simp] theorem tickOnce_config (s : State) : (tickOnce s).config = s.config := by unfold tickOnce; simp only; split <;> rfl
@[simp] theorem tickOnce_msClock (s : State) : (tickOnce s).msClock = s.msClock + 1 := by
  unfold tickOnce; simp only; split <;> rfl
@[simp] theorem tickOnce_out (s : State) : (tickOnce s).out = {} := by unfold tickOnce; simp only; split <;> rfl

/-! ### What an evaluation writes -/

@[simp] theorem evaluate_tipRemoved (sample : Nat) (adcOk disc holder : Bool) (s : State) :
    (evaluate sample adcOk disc holder s).tipRemoved = !(adcOk && decide (sample ≤ 3500)) := by
  unfold evaluate; simp only [safety_tipRemoved]; split <;> simp
@[simp] theorem evaluate_ironDisconnected (sample : Nat) (adcOk disc holder : Bool) (s : State) :
    (evaluate sample adcOk disc holder s).ironDisconnected = disc := by unfold evaluate; simp
@[simp] theorem evaluate_ironInHolder (sample : Nat) (adcOk disc holder : Bool) (s : State) :
    (evaluate sample adcOk disc holder s).ironInHolder = holder := by unfold evaluate; simp
@[simp] theorem evaluate_measuredTemperature (sample : Nat) (adcOk disc holder : Bool) (s : State) :
    (evaluate sample adcOk disc holder s).measuredTemperature = (acquire sample adcOk s).2.measuredTemperature := by
  unfold evaluate; simp only [safety_measuredTemperature]; split <;> simp
@[simp] theorem evaluate_filteredTemperature (sample : Nat) (adcOk disc holder : Bool) (s : State) :
    (evaluate sample adcOk disc holder s).filteredTemperature = (acquire sample adcOk s).2.filteredTemperature := by
  unfold evaluate; simp only [safety_filteredTemperature]; split <;> simp
@[simp] theorem evaluate_runaway (sample : Nat) (adcOk disc holder : Bool) (s : State) :
    (evaluate sample adcOk disc holder s).runaway = (acquire sample adcOk s).2.runaway := by
  unfold evaluate; simp only [safety_runaway]; split <;> simp
@[simp] theorem evaluate_warmup (sample : Nat) (adcOk disc holder : Bool) (s : State) :
    (evaluate sample adcOk disc holder s).warmup = (acquire sample adcOk s).2.warmup := by
  unfold evaluate; simp only [safety_warmup]; split <;> simp
@[simp] theorem evaluate_outputEnabled (sample : Nat) (adcOk disc holder : Bool) (s : State) :
    (evaluate sample adcOk disc holder s).outputEnabled = ((acquire sample adcOk s).1 && !disc) := by
  by_cases h : adcOk = true ∧ sample ≤ 3500
  · simp [evaluate_completed h, acquire_completed h]
  · simp [evaluate_failed h, acquire_failed h]

/-! ### Acquisitions -/

/-- Only a `ZCM` completes an acquisition, in slot 0 and with an accepted sample. -/
theorem acquires_eq_true {i : Instr} {s : State} :
    acquires i s = true ↔
      ∃ sample disc holder, i = .zcm sample true disc holder ∧ s.slot = 0 ∧ sample ≤ 3500 := by
  cases i <;> simp [acquires, Const.tipThreshold]
  tauto

@[simp] theorem acquires_withTrace (i : Instr) (s : State) (tr : List Word) :
    acquires i { s with trace := tr } = acquires i s := by cases i <;> rfl

/-- The next step completes an acquisition exactly when the operation in front does. -/
theorem nextAcquires_cons {s : State} {w : Word} {rest : List Word} {i : Instr} (h : s.trace = w :: rest)
    (hi : decode w = .ok i) : nextAcquires s = acquires i s := by
  simp only [nextAcquires, h, hi]

theorem nextAcquires_nil {s : State} (h : s.trace = []) : nextAcquires s = false := by
  simp only [nextAcquires, h]

/-- A run of one step more. -/
theorem acquisitions_succ {s t : State} (h : step s = .next t) (n : Nat) :
    acquisitions (n + 1) s = (if nextAcquires s then 1 else 0) + acquisitions n t := by
  simp only [acquisitions, h]

/-! ### Runs of operations -/

theorem runOps_cons_next {i : Instr} {s t : State} (h : exec i s = .next t) (later : List Instr) :
    runOps (i :: later) s = runOps later t := by
  simp only [runOps, h]

theorem visited_cons_next {i : Instr} {s t : State} (h : exec i s = .next t) (later : List Instr) :
    visited (i :: later) s = t :: visited later t := by
  simp only [visited, h]

/-- A run in two parts. -/
theorem runOps_append {first second : List Instr} {s t : State} (h : runOps first s = .next t) :
    runOps (first ++ second) s = runOps second t := by
  induction first generalizing s with
  | nil => simp only [runOps, Host.Outcome.next.injEq] at h; rw [h]; rfl
  | cons i later ih =>
    simp only [runOps, List.cons_append] at h ⊢
    split at h <;> first | exact ih h | exact absurd h (by simp)

end Sys2Proof.Laws
end

