-- ==== Sys2Proof/Laws/PerInstr.lean ====
section
/-! SUPPORT. One family over the operations as syntax: the word an operation encodes to agrees with the match and mask
of its row (spec/30_encoding.md R83). -/

namespace Sys2Proof.Laws.EncodeMatchesRow

/-- The encoded word of an operation is in its row's match set. -/
def Statement (i : Instr) : Prop := encode i &&& rowMask i = rowMatch i

theorem zcm (sample : Nat) (adcOk disc holder : Bool) : Statement (.zcm sample adcOk disc holder) := by
  unfold Statement
  apply BitVec.eq_of_getLsbD_eq
  intro i hi
  interval_cases i <;> simp [encode, put, rowMask, rowMatch]

theorem zcd : Statement .zcd := by unfold Statement; decide
theorem tick : Statement .tick := by unfold Statement; decide
theorem rfr (enc : Int) (holder disc : Bool) : Statement (.rfr enc holder disc) := by
  unfold Statement
  apply BitVec.eq_of_getLsbD_eq
  intro i hi
  interval_cases i <;> simp [encode, put, rowMask, rowMatch]

theorem wrg (reg : HostReg) (data : Half) : Statement (.wrg reg data) := by
  unfold Statement
  apply BitVec.eq_of_getLsbD_eq
  intro i hi
  interval_cases i <;> simp [encode, put, rowMask, rowMatch]

theorem rds (reg : HostReg) : Statement (.rds reg) := by unfold Statement; cases reg <;> decide
theorem rst : Statement .rst := by unfold Statement; decide

end Sys2Proof.Laws.EncodeMatchesRow
end

