-- ==== Sys2Proof/Tests/Slice0.lean ====
section
/-! SUPPORT. Tests of the model. Expected values are those of spec/95_test_vectors.md or worked out by hand from the rule
named; a `witness_` theorem shows that the hypotheses of the statement it is named after can all hold together. -/

namespace Sys2Proof.Tests
open Sys2Proof.Machine

/-! ### Small states and configurations -/

/-- The reset state under `REFCFG`. -/
def cold : State := { State.reset with config := refConfig }

/-- `REFCFG` with the hysteresis policy is admissible. -/
theorem hystCfg_admissible : ({ refCfg with policy := .hyst } : Cfg).Admissible :=
  (Cfg.check_iff _).1 (by decide +kernel)

/-- `REFCFG` with the hysteresis policy (program P5). -/
def hystConfig : Config := ⟨{ refCfg with policy := .hyst }, hystCfg_admissible⟩

/-- The calibration of T28 is admissible. -/
theorem coldCfg_admissible : ({ refCfg with tAmbient := -40 } : Cfg).Admissible :=
  (Cfg.check_iff _).1 (by decide +kernel)

/-- `REFCFG` with the ambient temperature of T28. -/
def coldConfig : Config := ⟨{ refCfg with tAmbient := -40 }, coldCfg_admissible⟩

/-- The pre-state of the vectors T20 to T28: filtered temperature, setpoint and warm-up counter given. -/
def vector (filtered : Int) (setpoint : Nat) (warmup : Fin 4) : State :=
  { cold with
    outputDuty := 40, outputDutyFiltered := 40, outputEnabled := true
    filteredTemperature := filtered, setpoint := setpoint, backupSetpoint := setpoint, warmup := warmup }

/-- The same under the hysteresis policy. -/
def hystVector (filtered : Int) (setpoint : Nat) : State := { vector filtered setpoint 3 with config := hystConfig }

/-- The end of program P1: enabled at duty 100, in slot 0. -/
def settled : State :=
  { cold with
    outputDuty := 100, outputDutyFiltered := 90, outputEnabled := true, warmup := 3
    measuredTemperature := 11775 / 131, filteredTemperature := 90, error0 := 210, error1 := 210, integral := 100
    setpoint := 300, backupSetpoint := 300, holdPeriods := 4, dispSetpoint := 300 }

/-- One drive edge later: the pin is on in slot 1. -/
def driving : State := { settled with slot := 1, pin := true }

/-- The state an operation leads to. -/
def after (i : Instr) (s : State) : State :=
  match exec i s with
  | .next t => t
  | .fault _ => s
  | .refused _ => s

theorem exec_after (i : Instr) (s : State) : exec i s = .next (after i s) := by cases i <;> rfl

theorem refCfg_keeps_clamp : RndKeepsClamp refCfg := fun _ h0 h1 => ⟨h0, h1⟩

/-- The invariant holds in a state that drives the heater. -/
theorem inv_driving : Inv driving := by
  constructor <;> first | (intro _; decide +kernel) | decide +kernel

/-- The invariant holds in the sampling slot with the output enabled. -/
theorem inv_settled : Inv settled := by
  constructor <;> first | (intro _; decide +kernel) | decide +kernel

/-! ### WellFormed: an ill-formed term for each check (R84) -/

theorem test_wf_sample_top : Instr.WellFormed (.zcm 4095 true true true) := by decide
theorem test_wf_sample_too_large : ¬ Instr.WellFormed (.zcm 4096 true false false) := by decide
theorem test_wf_enc_top : Instr.WellFormed (.rfr 32767 false false) := by decide
theorem test_wf_enc_too_large : ¬ Instr.WellFormed (.rfr 32768 false false) := by decide
theorem test_wf_enc_bottom : Instr.WellFormed (.rfr (-32768) true true) := by decide
theorem test_wf_enc_too_small : ¬ Instr.WellFormed (.rfr (-32769) false false) := by decide

/-! ### Admissible configurations (R8, R9, R10): one inadmissible record for each check -/

theorem test_cfg_ts_zero : ({ refCfg with ts := 0 } : Cfg).accept = none := by decide +kernel
theorem test_cfg_seebeck_zero : ({ refCfg with seebeck := 0 } : Cfg).accept = none := by decide +kernel
theorem test_cfg_blink_period_zero : ({ refCfg with blinkPeriodMs := 0 } : Cfg).accept = none := by decide +kernel
theorem test_cfg_blink_period_large : ({ refCfg with blinkPeriodMs := 65536 } : Cfg).accept = none := by decide +kernel
theorem test_cfg_hold_zero : ({ refCfg with blinkHoldPeriods := 0 } : Cfg).accept = none := by decide +kernel
theorem test_cfg_hold_large : ({ refCfg with blinkHoldPeriods := 256 } : Cfg).accept = none := by decide +kernel
theorem test_cfg_timeout_zero : ({ refCfg with adcTimeout := 0 } : Cfg).accept = none := by decide +kernel
theorem test_cfg_cold_end : ({ refCfg with tAmbient := -32768 } : Cfg).accept = none := by decide +kernel
theorem test_cfg_hot_end : ({ refCfg with vMult := 32768, seebeck := 3500, tAmbient := 0 } : Cfg).accept = none := by
  decide +kernel

/-! ### Decoding: words written out bit by bit from R83, fields from the left (op, must-be-zero, operands) -/

/-- op 0001, 13 zeros, holder 1, disc 0, adc_ok 1, sample 2003 (T1). -/
theorem test_decode_zcm :
    decode (0b0001#4 ++ 0#13 ++ 0b1#1 ++ 0b0#1 ++ 0b1#1 ++ 0b011111010011#12) = .ok (.zcm 2003 true false true) := by
  decide
/-- op 0001, disc 1 alone of the three levels (T2). -/
theorem test_decode_zcm_disc : decode 0x100031F4 = .ok (.zcm 500 true true false) := by decide
theorem test_decode_zcd : decode (0b0010#4 ++ 0#28) = .ok .zcd := by decide
theorem test_decode_tick : decode (0b0011#4 ++ 0#28) = .ok .tick := by decide
/-- op 0100, 10 zeros, disc 0, holder 1, enc 0xFFFB = -5 (T2). -/
theorem test_decode_rfr :
    decode (0b0100#4 ++ 0#10 ++ 0b0#1 ++ 0b1#1 ++ 0b1111111111111011#16) = .ok (.rfr (-5) true false) := by decide
/-- disc alone: bit 17 (T1). -/
theorem test_decode_rfr_disc : decode 0x40020BB8 = .ok (.rfr 3000 false true) := by decide
/-- op 0101, 8 zeros, reg 2, data 65535 (T2). -/
theorem test_decode_wrg :
    decode (0b0101#4 ++ 0#8 ++ 0b0010#4 ++ 0b1111111111111111#16) = .ok (.wrg .kd100 65535) := by decide
/-- op 0110, 8 zeros, reg 15, 16 zeros (T1). -/
theorem test_decode_rds : decode (0b0110#4 ++ 0#8 ++ 0b1111#4 ++ 0#16) = .ok (.rds .msclkHi) := by decide
theorem test_decode_rst : decode (0b0111#4 ++ 0#28) = .ok .rst := by decide

/-- Encoding (T1). -/
theorem test_encode :
    encode (.zcm 4095 true true true) = 0x10007FFF ∧ encode (.rfr (-32768) true true) = 0x40038000
      ∧ encode (.wrg .msclkHi 65535) = 0x500FFFFF ∧ encode (.rds .status) = 0x60040000 ∧ encode .rst = 0x70000000 := by
  decide

/-- The reserved words of T3, each refused with its reason. -/
theorem test_reserved :
    decode 0x00000000 = .error (.reservedOp 0) ∧ decode 0x80000000 = .error (.reservedOp 8)
      ∧ decode 0xFFFFFFFF = .error (.reservedOp 15) ∧ decode 0x10008000 = .error (.mustBeZero 1)
      ∧ decode 0x20000001 = .error (.mustBeZero 2) ∧ decode 0x30000001 = .error (.mustBeZero 3)
      ∧ decode 0x70000001 = .error (.mustBeZero 7) ∧ decode 0x40040000 = .error (.mustBeZero 4)
      ∧ decode 0x50100000 = .error (.mustBeZero 5) ∧ decode 0x60040001 = .error (.mustBeZero 6) := by
  decide

theorem test_decodeTableWord : decodeTableWord 32 0x100011F4 = some (.zcm 500 true false false) := by decide
theorem test_decodeTableWord_reserved : decodeTableWord 32 0x60040001 = none := by decide

/-- The word handed over is the next one taken, from reset. -/
theorem test_fetch : step (State.reset.withFetchWord 32 0x30000000) = exec .tick State.reset := by rfl

/-! ### Trace lines (R105, R106) -/

theorem test_line_zcm : parseLine "ZCM 500, 1, 0, 0".toList = some [.zcm 500 true false false] := by decide +kernel
theorem test_line_comment : parseLine "RFR -5, 1, 0   ; below range".toList = some [.rfr (-5) true false] := by
  decide +kernel
theorem test_line_names : parseLine "WRG KP100, 0xAF".toList = some [.wrg .kp100 175] := by decide +kernel
theorem test_line_pseudo :
    parseLine "WRGAINS 170, 15, 50".toList = some [.wrg .kp100 170, .wrg .ki100 15, .wrg .kd100 50] := by
  decide +kernel
theorem test_line_range : parseLine "ZCM 4096, 1, 0, 0".toList = none := by decide +kernel

/-! ### One step of each operation -/

/-- R112: slot 3, duty 40, enabled. -/
theorem test_zcd_last_driven_slot :
    let t := after .zcd { cold with slot := 3, outputDuty := 40, outputEnabled := true }
    t.slot = 4 ∧ t.pin = true := by decide
/-- T11: the edge that opens slot 0 switches the pin off at full duty. -/
theorem test_zcd_wraps :
    let t := after .zcd { cold with slot := 10, outputDuty := 100, outputEnabled := true, pin := true }
    t.slot = 0 ∧ t.pin = false := by decide

/-- T21: a sample of exactly 3500 is accepted. -/
theorem test_zcm_3500 :
    let t := after (.zcm 3500 true false false) (vector 0 300 3)
    t.measuredTemperature = 66705 / 131 ∧ t.filteredTemperature = 305 ∧ t.integral = -5 ∧ t.derivative = -5
      ∧ t.outputDuty = 0 ∧ t.outputDutyFiltered = 20 ∧ t.outputEnabled = true := by decide +kernel
/-- T22: 3501 is not, and the temperature is held. -/
theorem test_zcm_3501 :
    let t := after (.zcm 3501 true false false) (vector 55 300 3)
    t.tipRemoved = true ∧ t.filteredTemperature = 55 ∧ t.outputDuty = 0 ∧ t.outputDutyFiltered = 0
      ∧ t.outputEnabled = false ∧ t.warmup = 3 := by decide +kernel

/-- T50: above the range, the counter is written back. -/
theorem test_rfr_4501 :
    let t := after (.rfr 4501 false false) cold
    t.backupSetpoint = 450 ∧ t.out.encWr = some 4500 ∧ t.holdPeriods = 4 := by decide
/-- T51: row (0, 0, 1) with raw 300. -/
theorem test_rfr_holder :
    let t := after (.rfr 3000 true false) { cold with backupSetpoint := 300, outputDutyFiltered := 40 }
    t.modeState = .holderSleep ∧ t.setpoint = 150 ∧ t.dispSetpoint = 150 ∧ t.dispDuty = 40 := by decide

/-- T60: everything wraps in one tick. -/
theorem test_tick_boundary :
    let t := after .tick { cold with msClock := 0xFFFFFFFF, blinkMs := 499, blinkPhase := true, holdPeriods := 1 }
    t.msClock = 0 ∧ t.blinkMs = 0 ∧ t.blinkPhase = false ∧ t.holdPeriods = 0 := by decide
/-- T60: the carry from the low into the high half of the clock. -/
theorem test_tick_carry :
    let t := after .tick { cold with msClock := 65535 }
    hostRead .msclkLo t = 0 ∧ hostRead .msclkHi t = 1 ∧ t.blinkMs = 1 := by decide

/-- V7: a gain is stored as it is written. -/
theorem test_wrg_gain : (after (.wrg .ki100 175) cold).ki100 = 175 := by decide
/-- T61: a read-only register ignores the write. -/
theorem test_wrg_read_only : (after (.wrg .outDuty 77) cold).outputDuty = 0 := by decide

/-- T62: `STATUS` after program P1. -/
theorem test_rds_status : (after (.rds .status) settled).out.hRdata = some 0x1302 := by decide
/-- T28: a negative temperature in two's complement. -/
theorem test_rds_negative : (after (.rds .tFilt) { cold with filteredTemperature := -25 }).out.hRdata = some 0xFFE7 := by
  decide

/-- T64: a written gain is lost, the pin is off. -/
theorem test_rst : let t := after .rst { driving with kp100 := 999 }; t.kp100 = 170 ∧ t.pin = false ∧ t.warmup = 0 := by
  decide

/-- T27: the rounding to 5, ties up. -/
theorem test_round5 :
    round5 (105 / 2) = 55 ∧ round5 (5 / 2) = 5 ∧ round5 (12 / 5) = 0 ∧ round5 0 = 0 ∧ round5 (-5 / 2) = 0
      ∧ round5 (-13 / 5) = -5 ∧ round5 (-15 / 2) = -5 := by decide +kernel

/-! ### Witnesses, one theorem for each statement with hypotheses -/

theorem witness_DecodeOfEncode :
    Instr.WellFormed (.zcm 4095 true true true) ∧ Instr.WellFormed (.rfr (-32768) true true) := by decide
theorem witness_EncodeOfDecode : decode 0x100057D3 = .ok (.zcm 2003 true false true) := by decide
theorem witness_StepExecutesTheDecodedOperation :
    ({ cold with trace := [0x20000000] } : State).trace = 0x20000000 :: [] ∧ decode 0x20000000 = .ok .zcd := by decide
theorem witness_StepRefusesExactlyReservedWords :
    let s : State := { cold with trace := [0x60040001] }
    s.trace = 0x60040001 :: [] ∧ decode 0x60040001 = .error (.mustBeZero 6)
      ∧ step s = .refused (.reservedWord 0x60040001 (.mustBeZero 6)) := ⟨rfl, rfl, rfl⟩
theorem witness_StepWithoutEventChangesNothing : State.reset.trace = [] := rfl
theorem witness_MeasurementEdgeOutsideSlotZero :
    driving.slot ≠ 0 ∧ ({ driving with slot := 10 } : State).slot ≠ 0 := by decide
theorem witness_SensorRangeFault : settled.slot = 0 ∧ 3500 < 3501 ∧ 3500 ≤ 3500 := by decide
theorem witness_AdcTimeoutActsAsSensorRange : 3500 < 3501 := by decide
theorem witness_DisconnectionForcesOutputOff : settled.slot = 0 := rfl
/-- T24: 550 is not above 550; T23: 550 is above 0. -/
theorem witness_RunawaySuppressesOneCycle :
    (vector 0 50 3).slot = 0 ∧ 500 ≤ 3500 ∧ (after (.zcm 500 true false false) (vector 0 50 3)).runaway = false
      ∧ (after (.zcm 500 true false false) (vector 0 0 3)).runaway = true := by decide +kernel
theorem witness_ConditionsAndTheirRecord : settled.slot = 0 := rfl
/-- Each clause at its boundary: no sample, 3501, 3500. -/
theorem witness_AcquisitionProcedure :
    settled.slot = 0 ∧ (false = false ∨ 3500 < 0) ∧ (true = false ∨ 3500 < 3501) ∧ (true = true ∧ 3500 ≤ 3500) := by
  decide
theorem witness_FilterStepBounded : settled.slot = 0 ∧ 3500 ≤ 3500 ∧ settled.cfg.rounding = .identity := by decide
theorem witness_PidProcedure : settled.slot = 0 ∧ settled.cfg.policy = .pid ∧ 3500 ≤ 3500 := by decide
theorem witness_IntegralStaysClamped :
    settled.slot = 0 ∧ settled.cfg.policy = .pid ∧ RndKeepsClamp settled.cfg ∧ -100 ≤ settled.integral
      ∧ settled.integral ≤ 100 :=
  ⟨rfl, rfl, refCfg_keeps_clamp, by decide +kernel, by decide +kernel⟩
/-- From 90 a sample of 500 leaves 90 (T26): the lower threshold of 95, the upper threshold of 85, and between those of
90. -/
theorem witness_HysteresisProcedure :
    (hystVector 90 95).slot = 0 ∧ (hystVector 90 95).cfg.policy = .hyst
      ∧ (after (.zcm 500 true false false) (hystVector 90 95)).filteredTemperature = (95 : Int) - 5
      ∧ (after (.zcm 500 true false false) (hystVector 90 85)).filteredTemperature = (85 : Int) + 5
      ∧ (after (.zcm 500 true false false) (hystVector 90 90)).filteredTemperature = 90 := by decide +kernel
theorem witness_OutputFilterStep : settled.slot = 0 ∧ 3500 ≤ 3500 := by decide
/-- T41: from 0 under a duty of 100 the fourth step is 90; from 100 under 0 it is 0. -/
theorem witness_OutputFilterSettles :
    DutyLegal 0 ∧ DutyLegal 100 ∧ (filterDuty 100)^[4] 0 = 90 ∧ (filterDuty 0)^[4] 100 = 0 := by
  refine ⟨by decide, by decide, by decide +kernel, by decide +kernel⟩
theorem witness_OutputEnabledExactlyWhen :
    settled.slot = 0 ∧ (after (.zcm 500 true false false) settled).outputEnabled = true
      ∧ (after (.zcm 500 true false false) (vector 0 300 2)).outputEnabled = false := by decide +kernel
theorem witness_EvaluationFrame : settled.slot = 0 := rfl
theorem witness_DutyPatternOverACycle : settled.slot = 0 ∧ DutyLegal settled.outputDuty ∧ DutyLegal cold.outputDuty := by
  refine ⟨rfl, by decide, by decide⟩
/-- Twenty-two edges that begin with a measurement edge, with a tick among them; and eleven pairs from slot 10. -/
theorem witness_OneEvaluationPerSequencerCycle :
    let ops : List Instr := .tick :: (List.replicate 11 [.zcm 500 true false false, .zcd]).flatten
    Alternating ops ∧ .rst ∉ ops ∧ (ops.filter isEdge).length = 22
      ∧ (List.replicate 11 (500, true, false, false) : List (Nat × Bool × Bool × Bool)).length = 11
      ∧ ({ driving with slot := 10 } : State).slot = 10 := by
  refine ⟨?_, by decide, by decide, rfl, rfl⟩
  unfold Alternating
  decide
theorem witness_NeverSamplingWhileDriving :
    Inv settled ∧ exec (.zcm 500 true false false) settled = .next (after (.zcm 500 true false false) settled)
      ∧ (after (.zcm 500 true false false) settled).out.adcStart = true :=
  ⟨inv_settled, rfl, by decide +kernel⟩
theorem witness_HeaterChangesOnlyAtEdgesAndReset :
    isEdge .tick = false ∧ Instr.tick ≠ .rst ∧ isEdge (.rfr 3000 false true) = false := by decide
theorem witness_HeaterStaysOffUntilAnEvaluation :
    cold.outputEnabled = false ∧ cold.pin = false ∧ ∀ t ∈ visited [.zcd, .tick, .rst] cold, t.out.adcStart = false := by
  refine ⟨rfl, rfl, by decide +kernel⟩
/-- A setpoint, four evaluations in slot 0 and a drive edge: the heater is on. -/
theorem witness_FourAcquisitionsBeforeFirstDrive :
    (match Host.Core.run Sys2Proof.core 6
        ({ State.reset with
          config := refConfig
          trace := [0x40000BB8, 0x100011F4, 0x100011F4, 0x100011F4, 0x100011F4, 0x20000000] } : State) with
      | .next t => State.pin t
      | _ => false) = true := by decide +kernel
/-- At the boundary: the fourth acquisition, which enables the output. -/
theorem witness_StepKeepsWarmupHistory :
    let s : State := { vector 0 300 3 with outputEnabled := false, trace := [0x100011F4] }
    WarmupHistory 3 s ∧ nextAcquires s = true
      ∧ step s = .next (after (.zcm 500 true false false) { s with trace := [] }) :=
  ⟨⟨by decide, by decide, by decide⟩, by decide, rfl⟩
/-- `REFCFG` converts a sample to 20 °C or more (R133). -/
theorem refCfg_warm : WarmCalibration refCfg where
  exact := rfl
  warm sample _ := by
    have h : (0 : Rat) ≤ sample := Nat.cast_nonneg sample
    simp only [Cfg.exactTemperature, refCfg]
    linarith

theorem witness_StepKeepsOffWithoutSetpoint :
    let s : State := { vector 55 0 3 with outputEnabled := false, trace := [0x100011F4] }
    WarmCalibration s.cfg ∧ OffWithoutSetpoint s
      ∧ step s = .next (after (.zcm 500 true false false) { s with trace := [] }) :=
  ⟨refCfg_warm, ⟨rfl, rfl, rfl, by decide⟩, rfl⟩

/-- The run that `witness_FourAcquisitionsBeforeFirstDrive` shows, under a calibration that is warm. -/
theorem witness_FirstDriveAfterReset :
    WarmCalibration refConfig.cfg ∧ (match Host.Core.run Sys2Proof.core 6
        ({ State.reset with
          config := refConfig
          trace := [0x40000BB8, 0x100011F4, 0x100011F4, 0x100011F4, 0x100011F4, 0x20000000] } : State) with
      | .next t => State.pin t
      | _ => false) = true := ⟨refCfg_warm, by decide +kernel⟩

/-- Why the premise stands (assumption 11): under the calibration of T28 three samples of 0 after reset leave this state
(filtered -25, -35, -40, R134), and a fourth with a drive edge turns the heater on with no refresh before (e 40, u 83, R150). -/
theorem test_drive_without_setpoint :
    let t := after .zcd (after (.zcm 0 true false false)
      { cold with
        config := coldConfig, warmup := 3, filteredTemperature := -40, error0 := 40, integral := 100 })
    t.setpoint = 0 ∧ t.filteredTemperature ≤ 0 ∧ t.outputDuty = 80 ∧ t.pin = true := by decide +kernel

theorem witness_CyclePseudoOperation : settled.slot = 0 := rfl
theorem witness_ModeIsAFunctionOfItsInputs :
    (after (.zcm 3501 true false false) settled).tipRemoved = true ∧ settled.tipRemoved = false := by decide +kernel
/-- Each clause at its boundary. -/
theorem witness_EncoderSaturationAndWriteBack :
    (4500 : Int) < 4501 ∧ (-1 : Int) < 0 ∧ ((0 : Int) ≤ 0 ∧ (0 : Int) ≤ 4500) ∧ ((0 : Int) ≤ 4500 ∧ (4500 : Int) ≤ 4500) := by
  decide
theorem witness_SetpointProperties : settled.tipRemoved = false := rfl
theorem witness_TickFullEffect :
    ({ cold with blinkMs := 499 } : State).blinkMs + 1 = cold.cfg.blinkPeriodMs
      ∧ ({ cold with blinkMs := 498 } : State).blinkMs + 1 ≠ cold.cfg.blinkPeriodMs := by decide
theorem witness_ManyTicks : ({ cold with blinkMs := 499 } : State).blinkMs < cold.cfg.blinkPeriodMs := by decide
/-- The last and the first count of n for the two clauses on the hold: 1500 and 2000 ticks under `REFCFG`. -/
theorem witness_HoldLastsItsPeriods :
    cold.blinkMs < cold.cfg.blinkPeriodMs ∧ rawSetpoint 3000 ≠ cold.backupSetpoint
      ∧ 1500 + cold.cfg.blinkPeriodMs ≤ cold.cfg.blinkHoldPeriods * cold.cfg.blinkPeriodMs
      ∧ cold.cfg.blinkHoldPeriods * cold.cfg.blinkPeriodMs ≤ 2000 := by decide
theorem witness_ClockReadTwice :
    let s : State := { cold with msClock := 65534 }
    1 + 0 ≤ 2 ^ 32 - 2 ^ 16 ∧ runOps (ticks 1) s = .next (after .tick s)
      ∧ runOps (ticks 0) (after .tick s) = .next (after .tick s)
      ∧ hostRead .msclkHi s = hostRead .msclkHi (after .tick s) :=
  ⟨by decide, rfl, rfl, by decide⟩
theorem witness_HostWriteFullEffect : 3 ≤ HostReg.slot.number.toNat ∧ 3 ≤ HostReg.msclkHi.number.toNat := by decide
theorem witness_HostReadFullEffect : HostReg.kd100.number.toNat < 3 := by decide
theorem witness_HostViewsAreExact : Inv driving ∧ driving.cfg.rounding = .identity := ⟨inv_driving, rfl⟩
theorem witness_InadmissibleConfigurationRefused : ¬ ({ refCfg with ts := 0 } : Cfg).Admissible ∧ refCfg.Admissible :=
  ⟨fun h => absurd h.ts_pos (by decide +kernel), refCfg_admissible⟩
theorem witness_ConfigurationNeverChanges :
    let s : State := { cold with trace := [0x30000000] }
    step s = .next (after .tick cold) := by intro s; rfl
theorem witness_StepKeepsInvariant : Inv driving ∧ step driving = .next driving := ⟨inv_driving, rfl⟩
/-- The same with an event: the drive edge. -/
theorem witness_StepKeepsInvariant_event :
    Inv { driving with trace := [0x20000000] }
      ∧ step { driving with trace := [0x20000000] } = .next (after .zcd driving) :=
  ⟨{ inv_driving with }, rfl⟩
theorem witness_InvariantGivesSafeState : Inv driving ∧ driving.pin = true := ⟨inv_driving, rfl⟩
theorem witness_WriteOwnership :
    Instr.tick ≠ .rst ∧ exec .tick driving = .next (after .tick driving) ∧ agentOf .tick ≠ some .seq := by
  refine ⟨by decide, rfl, by decide⟩
theorem witness_UnreadElements :
    Instr.rds .status ≠ .rds .msclkLo ∧ Instr.rds .status ≠ .rds .msclkHi
      ∧ withoutUnread driving = withoutUnread { driving with msClock := 7, derivative := 3 }
      ∧ exec .zcd driving = .next (after .zcd driving) := ⟨by decide, by decide, rfl, rfl⟩
theorem witness_TickCommutesWithSequencerAndHost :
    agentOf .zcd = some .seq ∧ agentOf (.rds .msclkLo) = some .host := by decide
theorem witness_TraceRunIsOperationRun :
    ∀ i ∈ [Instr.zcm 4095 true true true, .rfr (-32768) true true, .rfr 32767 false false], i.WellFormed := by decide

/-- A rising, then a falling edge, a tick with each: the tick may come only after the edge. -/
theorem witness_PortEdgesAlternate :
    let up : Inputs := { zc := true, tick1ms := true }
    let down : Inputs := { zc := false, tick1ms := true }
    (∀ now ∈ [up, down], now.rst = false)
      ∧ LegalTrace (presentedAll .rising false [up, down]) [.zcm 0 false false false, .tick, .zcd, .tick] := by
  refine ⟨by decide, ?_⟩
  have h1 : Serialization [.zcm 0 false false false, .tick] [.zcm 0 false false false, .tick] := by
    simp [Serialization, EdgesFirst, isEdge]
  have h2 : Serialization [.zcd, .tick] [.zcd, .tick] := by simp [Serialization, EdgesFirst, isEdge]
  exact .cons h1 (.cons h2 .nil)

end Sys2Proof.Tests
end

/-! PROOFS. The control law (spec/42_control_law.md): what one evaluation does under each policy, and the range of the
integral along any run. -/

namespace Sys2Proof.Proofs.ControlLaw
open Sys2Proof.Machine Sys2Proof.Laws

/-! ### What `CONTROL_PID` writes -/

/-- R152, the error as a rational. -/
theorem controlPid_error0 (s : State) : (controlPid s).error0 = (s.setpoint : Rat) - s.filteredTemperature := by
  simp [controlPid]

@[simp] theorem controlPid_error1 (s : State) : (controlPid s).error1 = s.error0 := rfl

/-- R153: clamped first, rounded after. -/
theorem controlPid_integral (s : State) :
    (controlPid s).integral
      = s.cfg.rnd (max (-100) (min 100 (s.integral + (controlPid s).error0 * s.cfg.ts))) :=
  congrArg s.cfg.rnd (clamp_eq_max_min (by norm_num) _)

/-- R154, by the history just shifted. -/
theorem controlPid_derivative (s : State) :
    (controlPid s).derivative = s.cfg.rnd (((controlPid s).error0 - (controlPid s).error1) / s.cfg.ts) := rfl

/-- A quantised control value as R156 writes it: nothing is lost in making it a natural number. -/
theorem quantiseDuty_cast (u : Rat) : (quantiseDuty u : Int) = 10 * ⌊max 0 (min 100 u) / 10⌋ := by
  have hnonneg : 0 ≤ ⌊max 0 (min 100 u) / 10⌋ := Int.floor_nonneg.2 (by positivity)
  rw [quantiseDuty_eq, floor10_eq, clamp_eq_max_min (by norm_num), rat_floor_eq]
  omega

/-- R155 and R156, by the new integral and derivative. -/
theorem controlPid_outputDuty (s : State) :
    ((controlPid s).outputDuty : Int) = 10 * ⌊max 0 (min 100 (s.cfg.rnd
      ((s.kp100.toNat : Rat) / 100 * (controlPid s).error0 + (s.ki100.toNat : Rat) / 100 * (controlPid s).integral
        + (s.kd100.toNat : Rat) / 100 * (controlPid s).derivative + s.cfg.bias))) / 10⌋ :=
  quantiseDuty_cast _

/-! ### What `CONTROL_HYST` writes -/

theorem controlHyst_hystOn (s : State) :
    (controlHyst s).hystOn = nextHystOn s.filteredTemperature s.setpoint s.hystOn := rfl

/-- R158 and R159, by the memory just written. -/
theorem controlHyst_outputDuty (s : State) :
    (controlHyst s).outputDuty = if (controlHyst s).hystOn then 100 else 0 := rfl

/-- The lower threshold of R158, inclusive. -/
theorem nextHystOn_cold {filtered : Int} {setpoint : Nat} (h : filtered ≤ (setpoint : Int) - 5) (held : Bool) :
    nextHystOn filtered setpoint held = true := by
  rw [nextHystOn_eq, if_pos h]

/-- The upper threshold of R158, inclusive. -/
theorem nextHystOn_hot {filtered : Int} {setpoint : Nat} (h : filtered ≥ (setpoint : Int) + 5) (held : Bool) :
    nextHystOn filtered setpoint held = false := by
  rw [nextHystOn_eq, if_neg (by omega), if_pos h]

/-- Between the two thresholds of R158 the memory holds. -/
theorem nextHystOn_between {filtered : Int} {setpoint : Nat} (hlo : (setpoint : Int) - 5 < filtered)
    (hhi : filtered < (setpoint : Int) + 5) (held : Bool) : nextHystOn filtered setpoint held = held := by
  rw [nextHystOn_eq, if_neg (by omega), if_neg (by omega)]

/-! ### An evaluation with an accepted sample -/

@[simp] theorem startConversion_cfg (s : State) : (startConversion s).cfg = s.cfg := rfl

@[simp] theorem acquireCompleted_cfg (sample : Nat) (s : State) : (acquireCompleted sample s).2.cfg = s.cfg := rfl

/-- A `ZCM` in slot 0 with an accepted sample, part after part: the sampling gate, acquisition, control law, output
filter, safety-flag update and pin (R111, R114, R115). -/
theorem exec_zcm_completed {s : State} {sample : Nat} (hslot : s.slot = 0) (hsample : sample ≤ 3500)
    (disc holder : Bool) :
    exec (.zcm sample true disc holder) s =
      .next (drive (safety disc holder (acquireCompleted sample (startConversion s)).1
        (outFilter (controlLaw (acquireCompleted sample (startConversion s)).2)))) := by
  rw [← evaluate_completed ⟨rfl, hsample⟩, ← measurementEdge_slot_zero hslot]
  rfl

/-- Settles O18: every element is read off `CONTROL_PID` at the state that acquisition hands to it. -/
theorem pidProcedure : Obligations.PidProcedure := by
  unfold Obligations.PidProcedure
  intro s sample disc holder hslot hpolicy hsample
  refine ⟨_, exec_zcm_completed hslot hsample disc holder, ?_⟩
  rw [controlLaw_pid (by simpa using hpolicy)]
  refine ⟨?error0, ?error1, ?error2, ?hystOn, ?integral, ?derivative, ?duty⟩
  case error0 => simp [controlPid_error0]
  case error1 => simp
  case error2 => simp
  case hystOn => simp
  case integral => simp [controlPid_integral]
  case derivative => simp [controlPid_derivative]
  case duty =>
    rintro rfl
    simp [controlPid_outputDuty]

/-- Settles O20: the new memory is `nextHystOn` of the new filtered temperature, and the duty follows it. -/
theorem hysteresisProcedure : Obligations.HysteresisProcedure := by
  unfold Obligations.HysteresisProcedure
  intro s sample disc holder hslot hpolicy hsample
  refine ⟨_, exec_zcm_completed hslot hsample disc holder, ?_⟩
  rw [controlLaw_hyst (by simpa using hpolicy)]
  refine ⟨?cold, ?hot, ?between, ?duty, ?pidHeld⟩
  case cold => exact fun h => by simpa [controlHyst_hystOn] using nextHystOn_cold h s.hystOn
  case hot => exact fun h => by simpa [controlHyst_hystOn] using nextHystOn_hot h s.hystOn
  case between => exact fun hlo hhi => by simpa [controlHyst_hystOn] using nextHystOn_between hlo hhi s.hystOn
  case duty =>
    rintro rfl
    simp [controlHyst_outputDuty]
  case pidHeld => simp

/-! ### The integral along a run -/

/-- The control law leaves the integral or writes a clamped sum, rounded. -/
theorem controlLaw_integral (s : State) :
    (controlLaw s).integral = s.integral
      ∨ ∃ x : Rat, -100 ≤ x ∧ x ≤ 100 ∧ (controlLaw s).integral = s.cfg.rnd x := by
  cases h : s.cfg.policy with
  | pid =>
    rw [controlLaw_pid h]
    obtain ⟨hlo, hhi⟩ :=
      clamp_mem (lo := -100) (hi := 100) (by norm_num) (s.integral + (controlPid s).error0 * s.cfg.ts)
    exact .inr ⟨_, hlo, hhi, rfl⟩
  | hyst =>
    rw [controlLaw_hyst h]
    exact .inl rfl

/-- A measurement edge reaches the integral through the control law only. -/
theorem measurementEdge_integral (sample : Nat) (adcOk disc holder : Bool) (s : State) :
    (measurementEdge sample adcOk disc holder s).integral = s.integral
      ∨ ∃ x : Rat, -100 ≤ x ∧ x ≤ 100 ∧ (measurementEdge sample adcOk disc holder s).integral = s.cfg.rnd x := by
  by_cases hslot : s.slot = 0
  · rw [measurementEdge_slot_zero hslot]
    by_cases hok : adcOk = true ∧ sample ≤ 3500
    · rw [evaluate_completed hok]
      simpa using controlLaw_integral (acquireCompleted sample (startConversion s)).2
    · rw [evaluate_failed hok]
      exact .inl rfl
  · rw [measurementEdge_other_slot hslot]
    exact .inl rfl

/-- All that an operation can do to the integral: leave it, reset it, or write a clamped value, rounded. -/
theorem exec_integral {i : Instr} {s t : State} (h : exec i s = .next t) :
    t.integral = s.integral ∨ t.integral = 0 ∨ ∃ x : Rat, -100 ≤ x ∧ x ≤ 100 ∧ t.integral = s.cfg.rnd x := by
  cases i with
  | zcm sample adcOk disc holder =>
    cases h
    exact (measurementEdge_integral sample adcOk disc holder s).imp_right .inr
  | rst => cases h; exact .inr (.inl rfl)
  | zcd => cases h; exact .inl rfl
  | tick => cases h; exact .inl (tickOnce_integral s)
  | rfr enc holder disc => cases h; exact .inl rfl
  | wrg reg data => cases h; exact .inl (hostWrite_integral reg data _)
  | rds reg => cases h; exact .inl rfl

/-- No operation changes the configuration (R58). -/
theorem exec_config {i : Instr} {s t : State} (h : exec i s = .next t) : t.config = s.config := by
  cases i with
  | zcm sample adcOk disc holder => cases h; exact measurementEdge_config sample adcOk disc holder s
  | tick => cases h; exact tickOnce_config s
  | wrg reg data => cases h; exact hostWrite_config reg data _
  | zcd => cases h; rfl
  | rfr enc holder disc => cases h; rfl
  | rds reg => cases h; rfl
  | rst => cases h; rfl

/-- A property that every operation keeps holds in every state a run visits. -/
theorem forall_mem_visited {P : State → Prop} (hstep : ∀ i s t, P s → exec i s = .next t → P t) (ops : List Instr)
    {s : State} (hs : P s) : ∀ t ∈ visited ops s, P t := by
  induction ops generalizing s with
  | nil => simp [visited]
  | cons i later ih =>
    cases h : exec i s with
    | next t =>
      rw [visited_cons_next h, List.forall_mem_cons]
      have ht : P t := hstep i s t hs h
      exact ⟨ht, ih ht⟩
    | fault r => simp [visited, h]
    | refused r => simp [visited, h]

/-- The range of R153 with its premise on the rounding, which a run carries along. -/
def IntegralInRange (s : State) : Prop := RndKeepsClamp s.cfg ∧ -100 ≤ s.integral ∧ s.integral ≤ 100

theorem exec_keeps_integralInRange (i : Instr) (s t : State) (hs : IntegralInRange s) (h : exec i s = .next t) :
    IntegralInRange t := by
  obtain ⟨hrnd, hlo, hhi⟩ := hs
  refine ⟨by rwa [State.cfg, exec_config h], ?_⟩
  obtain hkept | hzero | ⟨x, hxlo, hxhi, hx⟩ := exec_integral h
  · rw [hkept]; exact ⟨hlo, hhi⟩
  · rw [hzero]; norm_num
  · rw [hx]; exact hrnd x hxlo hxhi

/-- Settles O19: one step of the law is part of O18, and the range is kept by every operation. -/
theorem integralStaysClamped : Obligations.IntegralStaysClamped := by
  unfold Obligations.IntegralStaysClamped
  constructor
  · intro s sample disc holder hslot hpolicy hsample
    obtain ⟨t, hexec, herror, -, -, -, hintegral, -⟩ := pidProcedure s sample disc holder hslot hpolicy hsample
    exact ⟨t, hexec, herror ▸ hintegral⟩
  · intro ops s hrnd hlo hhi t ht
    exact (forall_mem_visited exec_keeps_integralInRange ops ⟨hrnd, hlo, hhi⟩ t ht).2

end Sys2Proof.Proofs.ControlLaw

/-! PROOFS. The mode state machine (spec/43_encoder_mode.md): one refresh as a whole, and the mode it leaves. -/

namespace Sys2Proof.Proofs.ModeMachine
open Sys2Proof.Machine Sys2Proof.Laws

/-! ### The parts of a refresh -/

/-- R183: nothing is written back exactly when the counter stands in the range of the setpoint. -/
theorem encoderWriteBack_eq (enc : Int) :
    encoderWriteBack enc =
      if saturateEncoder enc = enc then none else some (BitVec.ofInt 16 (saturateEncoder enc)) :=
  ite_not ..

theorem recentlyChanged_eq_true {holdPeriods : Nat} : recentlyChanged holdPeriods = true ↔ holdPeriods ≠ 0 := by
  rw [recentlyChanged, decide_eq_true_iff, Nat.pos_iff_ne_zero]

/-- The two fault states of R98. -/
theorem isFault_eq_true {mode : Mode} :
    mode.isFault = true ↔ mode = .faultRemoved ∨ mode = .faultDisconnected := by
  cases mode <;> simp [Mode.isFault]

/-! ### The mode in its priority (R190) -/

@[simp] theorem nextMode_tipRemoved (disc holder : Bool) : nextMode true disc holder = .faultRemoved := rfl

@[simp] theorem nextMode_disconnected (holder : Bool) : nextMode false true holder = .faultDisconnected := rfl

@[simp] theorem nextMode_holder : nextMode false false true = .holderSleep := rfl

@[simp] theorem nextMode_active : nextMode false false false = .active := rfl

/-! ### What a refresh writes -/

theorem exec_rfr (enc : Int) (holder disc : Bool) (s : State) :
    exec (.rfr enc holder disc) s = .next (refresh enc holder disc s) := rfl

section Refresh
variable (enc : Int) (holder disc : Bool) (s : State)

/-- R180, the elements written: the rest of the state stays. -/
theorem refresh_frame :
    refresh enc holder disc s =
      { s with
        out := (refresh enc holder disc s).out
        holdPeriods := (refresh enc holder disc s).holdPeriods
        backupSetpoint := (refresh enc holder disc s).backupSetpoint
        setpoint := (refresh enc holder disc s).setpoint
        modeState := (refresh enc holder disc s).modeState
        dispSetpoint := (refresh enc holder disc s).dispSetpoint
        dispTemp := (refresh enc holder disc s).dispTemp
        dispDuty := (refresh enc holder disc s).dispDuty } := rfl

@[simp] theorem refresh_out : (refresh enc holder disc s).out = { encWr := encoderWriteBack enc } := rfl

/-- R185: a changed raw setpoint starts the hold again. -/
theorem refresh_holdPeriods :
    (refresh enc holder disc s).holdPeriods =
      if rawSetpoint enc = s.backupSetpoint then s.holdPeriods else s.cfg.blinkHoldPeriods :=
  ite_not ..

@[simp] theorem refresh_backupSetpoint : (refresh enc holder disc s).backupSetpoint = rawSetpoint enc := rfl

@[simp] theorem refresh_setpoint :
    (refresh enc holder disc s).setpoint =
      if holder then reducedSetpoint (rawSetpoint enc) else rawSetpoint enc := rfl

@[simp] theorem refresh_modeState :
    (refresh enc holder disc s).modeState = nextMode s.tipRemoved disc holder := rfl

/-- R196: the reduced setpoint is shown in the holder once the hold is over, the raw one in every other case. -/
theorem refresh_dispSetpoint :
    (refresh enc holder disc s).dispSetpoint =
      if (refresh enc holder disc s).modeState = .holderSleep ∧ (refresh enc holder disc s).holdPeriods = 0
      then reducedSetpoint (rawSetpoint enc) else rawSetpoint enc := by
  unfold refresh
  simp only [recentlyChanged_eq_true, ite_not, ite_and]

@[simp] theorem refresh_dispTemp : (refresh enc holder disc s).dispTemp = s.filteredTemperature := rfl

/-- R196: no duty is shown in a fault state. -/
theorem refresh_dispDuty :
    (refresh enc holder disc s).dispDuty =
      if (refresh enc holder disc s).modeState = .faultRemoved
        ∨ (refresh enc holder disc s).modeState = .faultDisconnected
      then 0 else s.outputDutyFiltered := by
  unfold refresh
  simp only [isFault_eq_true]

/-- R190: a refresh writes the mode and never reads it. -/
@[simp] theorem refresh_withModeState (before : Mode) :
    refresh enc holder disc { s with modeState := before } = refresh enc holder disc s := rfl

end Refresh

/-! ### The two statements -/

/-- Settles O32: each element a refresh writes is rewritten to what R180 puts there, the rest stays; the mode is
`nextMode` with its priority written out. -/
theorem refreshProcedure : Obligations.RefreshProcedure := by
  unfold Obligations.RefreshProcedure
  intro s enc holder disc
  rw [exec_rfr, refresh_frame, refresh_dispSetpoint, refresh_dispDuty, refresh_out, refresh_holdPeriods,
    refresh_backupSetpoint, refresh_setpoint, refresh_modeState, refresh_dispTemp, encoderWriteBack_eq,
    reducedSetpoint_eq, rawSetpoint_eq, saturateEncoder_eq]
  rfl

/-- Settles O33: the mode after a refresh is `nextMode` of the three inputs, whatever it was before. -/
theorem modeIsAFunctionOfItsInputs : Obligations.ModeIsAFunctionOfItsInputs := by
  unfold Obligations.ModeIsAFunctionOfItsInputs
  intro s enc holder disc
  refine ⟨_, exec_rfr enc holder disc s, ?removed, ?disconnected, ?inHolder, ?active, ?before⟩
  case removed =>
    intro htip
    rw [refresh_modeState, htip, nextMode_tipRemoved]
  case disconnected =>
    rintro htip rfl
    rw [refresh_modeState, htip, nextMode_disconnected]
  case inHolder =>
    rintro htip rfl rfl
    rw [refresh_modeState, htip, nextMode_holder]
  case active =>
    rintro htip rfl rfl
    rw [refresh_modeState, htip, nextMode_active]
  case before =>
    intro before
    rw [exec_rfr, refresh_withModeState]

end Sys2Proof.Proofs.ModeMachine

/-! PROOFS. Event words (spec/30_encoding.md sections 1 and 2): fields put together and taken apart, the words of each
row, and the agreement of decoder, encoder and masks. -/

namespace Sys2Proof.Proofs.Encoding
open Sys2Proof.Laws

/-! ### Fields put at their places -/

theorem getLsbD_field (w : Word) (lo n i : Nat) :
    (field w lo n).getLsbD i = (decide (i < n) && w.getLsbD (lo + i)) :=
  BitVec.getLsbD_extractLsb' lo n w i

theorem getLsbD_put {n : Nat} (lo : Nat) (v : BitVec n) (i : Nat) :
    (put lo v).getLsbD i = (decide (i < 32) && decide (lo ≤ i) && v.getLsbD (i - lo)) := by
  simp only [put, BitVec.getLsbD_shiftLeft, BitVec.getLsbD_setWidth]
  grind

theorem field_or (x y : Word) (lo n : Nat) : field (x ||| y) lo n = field x lo n ||| field y lo n := by
  ext i hi
  simp [field]

theorem field_and (x y : Word) (lo n : Nat) : field (x &&& y) lo n = field x lo n &&& field y lo n := by
  ext i hi
  simp [field]

/-- A field is read back from its place. -/
theorem field_put_same {n lo : Nat} (v : BitVec n) (h : lo + n ≤ 32) : field (put lo v) lo n = v := by
  apply BitVec.eq_of_getLsbD_eq
  intro i hi
  rw [getLsbD_field, getLsbD_put]
  simp [hi, show lo + i < 32 by omega]

/-- A field put elsewhere is not seen. -/
theorem field_put_disjoint {m hi lo n : Nat} (v : BitVec m) (h : lo + n ≤ hi ∨ hi + m ≤ lo) :
    field (put hi v) lo n = 0 := by
  apply BitVec.eq_of_getLsbD_eq
  intro i hin
  obtain h | h := h
  · simp [getLsbD_field, getLsbD_put, show ¬ hi ≤ lo + i by omega]
  · simp [getLsbD_field, getLsbD_put, BitVec.getLsbD_of_ge v (lo + i - hi) (by omega)]

/-- A field of one bit is that bit. -/
theorem field_one (w : Word) (i : Nat) : field w i 1 = BitVec.ofBool (w.getLsbD i) := by
  apply BitVec.eq_of_getLsbD_eq
  intro j hj
  obtain rfl : j = 0 := by omega
  rw [getLsbD_field]
  simp

/-- One bit of a word, from the field of that bit. -/
theorem getLsbD_of_field {w : Word} {i : Nat} {b : Bool} (h : field w i 1 = BitVec.ofBool b) : w.getLsbD i = b := by
  rw [field_one] at h
  simpa using congrArg (BitVec.getLsbD · 0) h

theorem put_zero (lo n : Nat) : put lo (0#n) = 0 := by
  simp [put]

/-- A field put back is the two parts it is made of, put back. -/
theorem put_field_add (w : Word) (lo a b : Nat) :
    put lo (field w lo (a + b)) = put (lo + a) (field w (lo + a) b) ||| put lo (field w lo a) := by
  apply BitVec.eq_of_getLsbD_eq
  intro i hi
  simp only [getLsbD_put, getLsbD_field, BitVec.getLsbD_or]
  grind

/-- A word is its operation code and the 28 bits below it. -/
theorem word_eq_fields (w : Word) : w = put 28 (field w 28 4) ||| put 0 (field w 0 28) := by
  have hall : put 0 (field w 0 (28 + 4)) = w := by
    apply BitVec.eq_of_getLsbD_eq
    intro i hi
    rw [getLsbD_put, getLsbD_field]
    simp [hi]
  rw [← put_field_add w 0 28 4, hall]

/-! ### The row of a word -/

/-- A word carries an operation: the operation code of its row (R83), zeros where the row has them (R85), and the
operands at their places (R84). -/
def Carries (w : Word) : Instr → Prop
  | .zcm sample adcOk disc holder =>
      field w 28 4 = 1 ∧ field w 15 13 = 0 ∧ (field w 0 12).toNat = sample
        ∧ w.getLsbD 12 = adcOk ∧ w.getLsbD 13 = disc ∧ w.getLsbD 14 = holder
  | .zcd => field w 28 4 = 2 ∧ field w 0 28 = 0
  | .tick => field w 28 4 = 3 ∧ field w 0 28 = 0
  | .rfr enc holder disc =>
      field w 28 4 = 4 ∧ field w 18 10 = 0 ∧ sext16 (field w 0 16) = enc ∧ w.getLsbD 16 = holder ∧ w.getLsbD 17 = disc
  | .wrg reg data =>
      field w 28 4 = 5 ∧ field w 20 8 = 0 ∧ HostReg.ofNumber (field w 16 4) = reg ∧ field w 0 16 = data
  | .rds reg =>
      field w 28 4 = 6 ∧ field w 20 8 = 0 ∧ field w 0 16 = 0 ∧ HostReg.ofNumber (field w 16 4) = reg
  | .rst => field w 28 4 = 7 ∧ field w 0 28 = 0

theorem eq_ofNat_of_toNat {n k : Nat} {v : BitVec n} (h : v.toNat = k) : v = BitVec.ofNat n k := by
  rw [← h, BitVec.ofNat_toNat, BitVec.setWidth_eq]

theorem carries_of_decode {w : Word} {i : Instr} (h : decode w = .ok i) : Carries w i := by
  unfold decode at h
  simp only at h
  split at h
  case h_8 => cases h
  all_goals
    rename_i hop
    have hop := eq_ofNat_of_toNat hop
    rw [ifZero_eq_ok, decide_eq_true_iff] at h
    obtain ⟨hzero, rfl⟩ := h
    simp_all [Carries]

theorem decode_of_carries {w : Word} {i : Instr} (h : Carries w i) : decode w = .ok i := by
  cases i with
  | zcm => obtain ⟨hop, hzero, rfl, rfl, rfl, rfl⟩ := h; simp [decode, ifZero, hop, hzero]
  | zcd => obtain ⟨hop, hzero⟩ := h; simp [decode, ifZero, hop, hzero]
  | tick => obtain ⟨hop, hzero⟩ := h; simp [decode, ifZero, hop, hzero]
  | rfr => obtain ⟨hop, hzero, rfl, rfl, rfl⟩ := h; simp [decode, ifZero, hop, hzero]
  | wrg => obtain ⟨hop, hzero, rfl, rfl⟩ := h; simp [decode, ifZero, hop, hzero]
  | rds => obtain ⟨hop, hzero, hdata, rfl⟩ := h; simp [decode, ifZero, hop, hzero, hdata]
  | rst => obtain ⟨hop, hzero⟩ := h; simp [decode, ifZero, hop, hzero]

/-- The decoder said once: a word is read as an operation exactly when it carries it. -/
theorem decode_eq_ok {w : Word} {i : Instr} : decode w = .ok i ↔ Carries w i :=
  ⟨carries_of_decode, decode_of_carries⟩

/-! ### Decoder and encoder agree -/

theorem wellFormed_zcm {sample : Nat} {adcOk disc holder : Bool} :
    (Instr.zcm sample adcOk disc holder).WellFormed ↔ sample ≤ 4095 := decide_eq_true_iff

theorem wellFormed_rfr {enc : Int} {holder disc : Bool} :
    (Instr.rfr enc holder disc).WellFormed ↔ -32768 ≤ enc ∧ enc ≤ 32767 := by
  rw [Instr.WellFormed, Instr.wellFormed, Bool.and_eq_true, decide_eq_true_iff, decide_eq_true_iff]

theorem carries_encode {i : Instr} (h : i.WellFormed) : Carries (encode i) i := by
  cases i with
  | zcm sample adcOk disc holder =>
    have hsample : sample < 4096 := Nat.lt_succ_of_le (wellFormed_zcm.1 h)
    refine ⟨?_, ?_, ?_, getLsbD_of_field ?_, getLsbD_of_field ?_, getLsbD_of_field ?_⟩ <;>
      simp (disch := omega) [encode, field_or, field_put_same, field_put_disjoint, Nat.mod_eq_of_lt hsample]
  | rfr enc holder disc =>
    obtain ⟨hlo, hhi⟩ := wellFormed_rfr.1 h
    refine ⟨?_, ?_, ?_, getLsbD_of_field ?_, getLsbD_of_field ?_⟩ <;>
      simp (disch := omega) [encode, field_or, field_put_same, field_put_disjoint, sext16_ofInt hlo hhi]
  | wrg reg data =>
    refine ⟨?_, ?_, ?_, ?_⟩ <;>
      simp (disch := omega) [encode, field_or, field_put_same, field_put_disjoint, ofNumber_number]
  | rds reg =>
    refine ⟨?_, ?_, ?_, ?_⟩ <;>
      simp (disch := omega) [encode, field_or, field_put_same, field_put_disjoint, ofNumber_number]
  | zcd => exact ⟨rfl, rfl⟩
  | tick => exact ⟨rfl, rfl⟩
  | rst => exact ⟨rfl, rfl⟩

theorem encode_of_carries {w : Word} {i : Instr} (h : Carries w i) : encode i = w := by
  rw [word_eq_fields w]
  cases i with
  | zcm =>
    obtain ⟨hop, hzero, rfl, rfl, rfl, rfl⟩ := h
    rw [put_field_add w 0 15 13, put_field_add w 0 14 1, put_field_add w 0 13 1, put_field_add w 0 12 1]
    simp [encode, hop, hzero, put_zero, field_one, BitVec.or_assoc]
  | rfr =>
    obtain ⟨hop, hzero, rfl, rfl, rfl⟩ := h
    rw [put_field_add w 0 18 10, put_field_add w 0 17 1, put_field_add w 0 16 1]
    simp [encode, hop, hzero, put_zero, field_one, ofInt_sext16, BitVec.or_assoc]
  | wrg =>
    obtain ⟨hop, hzero, rfl, rfl⟩ := h
    rw [put_field_add w 0 20 8, put_field_add w 0 16 4]
    simp [encode, hop, hzero, put_zero, number_ofNumber, BitVec.or_assoc]
  | rds =>
    obtain ⟨hop, hzero, hdata, rfl⟩ := h
    rw [put_field_add w 0 20 8, put_field_add w 0 16 4]
    simp [encode, hop, hzero, hdata, put_zero, number_ofNumber]
  | zcd => obtain ⟨hop, hzero⟩ := h; simp [encode, hop, hzero, put_zero]
  | tick => obtain ⟨hop, hzero⟩ := h; simp [encode, hop, hzero, put_zero]
  | rst => obtain ⟨hop, hzero⟩ := h; simp [encode, hop, hzero, put_zero]

theorem wellFormed_of_carries {w : Word} {i : Instr} (h : Carries w i) : i.WellFormed := by
  cases i with
  | zcm =>
    obtain ⟨-, -, rfl, -⟩ := h
    exact wellFormed_zcm.2 (Nat.le_of_lt_succ (field w 0 12).isLt)
  | rfr =>
    obtain ⟨-, -, rfl, -⟩ := h
    exact wellFormed_rfr.2 (sext16_mem (field w 0 16))
  | zcd | tick | wrg | rds | rst => rfl

/-- Settles O2: the word of a well-formed operation carries it. -/
theorem decodeOfEncode : Obligations.DecodeOfEncode := by
  unfold Obligations.DecodeOfEncode
  exact fun i hi => decode_eq_ok.2 (carries_encode hi)

/-- Settles O3: a word is put together again from the fields it is read by. -/
theorem encodeOfDecode : Obligations.EncodeOfDecode := by
  unfold Obligations.EncodeOfDecode
  intro w i h
  have hw := decode_eq_ok.1 h
  exact ⟨wellFormed_of_carries hw, encode_of_carries hw⟩

/-- Settles O1: the seven rows on fixed words. -/
theorem eventWordExamplesDecode : Obligations.EventWordExamplesDecode := by
  unfold Obligations.EventWordExamplesDecode
  decide

/-! ### Match and mask of each row -/

theorem encode_masked (i : Instr) : encode i &&& rowMask i = rowMatch i := by
  cases i with
  | zcm sample adcOk disc holder => exact EncodeMatchesRow.zcm sample adcOk disc holder
  | zcd => exact EncodeMatchesRow.zcd
  | tick => exact EncodeMatchesRow.tick
  | rfr enc holder disc => exact EncodeMatchesRow.rfr enc holder disc
  | wrg reg data => exact EncodeMatchesRow.wrg reg data
  | rds reg => exact EncodeMatchesRow.rds reg
  | rst => exact EncodeMatchesRow.rst

theorem masked_of_decode {w : Word} {i : Instr} (h : decode w = .ok i) : w &&& rowMask i = rowMatch i := by
  rw [← encode_of_carries (decode_eq_ok.1 h)]
  exact encode_masked i

/-- A field the mask covers whole is the field of the match. -/
theorem field_of_masked {w mask value : Word} (h : w &&& mask = value) {lo n : Nat}
    (hmask : field mask lo n = BitVec.allOnes n) : field w lo n = field value lo n := by
  rw [← h, field_and, hmask, BitVec.and_allOnes]

theorem exists_decode_zcm {w : Word} :
    (∃ sample adcOk disc holder, decode w = .ok (.zcm sample adcOk disc holder)) ↔ w &&& 0xFFFF8000 = 0x10000000 := by
  constructor
  · rintro ⟨_, _, _, _, h⟩
    exact masked_of_decode h
  · intro h
    exact ⟨_, _, _, _, decode_of_carries ⟨field_of_masked h rfl, field_of_masked h rfl, rfl, rfl, rfl, rfl⟩⟩

theorem decode_zcd_iff {w : Word} : decode w = .ok .zcd ↔ w &&& 0xFFFFFFFF = 0x20000000 :=
  ⟨masked_of_decode, fun h => decode_of_carries ⟨field_of_masked h rfl, field_of_masked h rfl⟩⟩

theorem decode_tick_iff {w : Word} : decode w = .ok .tick ↔ w &&& 0xFFFFFFFF = 0x30000000 :=
  ⟨masked_of_decode, fun h => decode_of_carries ⟨field_of_masked h rfl, field_of_masked h rfl⟩⟩

theorem exists_decode_rfr {w : Word} :
    (∃ enc holder disc, decode w = .ok (.rfr enc holder disc)) ↔ w &&& 0xFFFC0000 = 0x40000000 := by
  constructor
  · rintro ⟨_, _, _, h⟩
    exact masked_of_decode h
  · intro h
    exact ⟨_, _, _, decode_of_carries ⟨field_of_masked h rfl, field_of_masked h rfl, rfl, rfl, rfl⟩⟩

theorem exists_decode_wrg {w : Word} :
    (∃ reg data, decode w = .ok (.wrg reg data)) ↔ w &&& 0xFFF00000 = 0x50000000 := by
  constructor
  · rintro ⟨_, _, h⟩
    exact masked_of_decode h
  · intro h
    exact ⟨_, _, decode_of_carries ⟨field_of_masked h rfl, field_of_masked h rfl, rfl, rfl⟩⟩

theorem exists_decode_rds {w : Word} : (∃ reg, decode w = .ok (.rds reg)) ↔ w &&& 0xFFF0FFFF = 0x60000000 := by
  constructor
  · rintro ⟨_, h⟩
    exact masked_of_decode h
  · intro h
    exact ⟨_, decode_of_carries
      ⟨field_of_masked h rfl, field_of_masked h rfl, field_of_masked h rfl, rfl⟩⟩

theorem decode_rst_iff {w : Word} : decode w = .ok .rst ↔ w &&& 0xFFFFFFFF = 0x70000000 :=
  ⟨masked_of_decode, fun h => decode_of_carries ⟨field_of_masked h rfl, field_of_masked h rfl⟩⟩

/-- A word is reserved exactly when it is no operation. -/
theorem exists_decode_error {w : Word} : (∃ why, decode w = .error why) ↔ ∀ i, decode w ≠ .ok i := by
  cases decode w <;> simp

/-- Settles O4: each row by the fields its mask covers, and the reserved words as those of no row. -/
theorem wordsAndRows : Obligations.WordsAndRows := by
  unfold Obligations.WordsAndRows
  intro w
  refine ⟨exists_decode_zcm, decode_zcd_iff, decode_tick_iff, exists_decode_rfr, exists_decode_wrg, exists_decode_rds,
    decode_rst_iff, ?_⟩
  have hall : w &&& 0xFFFFFFFF = w := BitVec.and_allOnes
  simp only [ne_eq, ← exists_decode_zcm, ← exists_decode_rfr, ← exists_decode_wrg, ← exists_decode_rds]
  rw [← hall, ← decode_zcd_iff, ← decode_tick_iff, ← decode_rst_iff, hall, exists_decode_error]
  constructor
  · intro h
    simp [h]
  · rintro ⟨hzcm, hzcd, htick, hrfr, hwrg, hrds, hrst⟩ i h
    cases i with
    | zcm => exact hzcm ⟨_, _, _, _, h⟩
    | zcd => exact hzcd h
    | tick => exact htick h
    | rfr => exact hrfr ⟨_, _, _, h⟩
    | wrg => exact hwrg ⟨_, _, h⟩
    | rds => exact hrds ⟨_, h⟩
    | rst => exact hrst h

end Sys2Proof.Proofs.Encoding

/-! PROOFS. One operation and one step: the state an operation leads to, what a step can do, and the statements about
single operations of the tick unit, the host, reset and the configuration. -/

namespace Sys2Proof.Proofs.Operations
open Sys2Proof.Machine Sys2Proof.Laws Sys2Proof.Proofs.ControlLaw

/-! ### Operations -/

/-- The state an operation leads to. -/
def result : Instr → State → State
  | .zcm sample adcOk disc holder => measurementEdge sample adcOk disc holder
  | .zcd => driveEdge
  | .tick => tickOnce
  | .rfr enc holder disc => refresh enc holder disc
  | .wrg reg data => fun s => hostWrite reg data (beginOp s)
  | .rds reg => fun s => { beginOp s with out := { hRdata := some (hostRead reg s) } }
  | .rst => resetAll

/-- Every operation completes (R73). -/
theorem exec_eq_result (i : Instr) (s : State) : exec i s = .next (result i s) := by
  cases i <;> rfl

theorem exec_eq_next {i : Instr} {s t : State} : exec i s = .next t ↔ result i s = t := by
  rw [exec_eq_result, Host.Outcome.next.injEq]

@[simp] theorem result_zcm (sample : Nat) (adcOk disc holder : Bool) (s : State) :
    result (.zcm sample adcOk disc holder) s = measurementEdge sample adcOk disc holder s := rfl

@[simp] theorem result_zcd (s : State) : result .zcd s = driveEdge s := rfl

@[simp] theorem result_tick (s : State) : result .tick s = tickOnce s := rfl

@[simp] theorem result_rfr (enc : Int) (holder disc : Bool) (s : State) :
    result (.rfr enc holder disc) s = refresh enc holder disc s := rfl

@[simp] theorem result_wrg (reg : HostReg) (data : Half) (s : State) :
    result (.wrg reg data) s = hostWrite reg data (beginOp s) := rfl

@[simp] theorem result_rds (reg : HostReg) (s : State) :
    result (.rds reg) s = { s with out := { hRdata := some (hostRead reg s) } } := rfl

@[simp] theorem result_rst (s : State) : result .rst s = resetAll s := rfl

@[simp] theorem result_config (i : Instr) (s : State) : (result i s).config = s.config :=
  exec_config (exec_eq_result i s)

/-- No operation looks at the events to come. -/
@[simp] theorem result_trace (i : Instr) (s : State) : (result i s).trace = s.trace := by
  cases i with
  | zcm => exact measurementEdge_trace ..
  | tick => exact tickOnce_trace s
  | wrg => exact hostWrite_trace ..
  | zcd | rfr | rds | rst => rfl

/-- Settles O8. -/
theorem everyOperationCompletes : Obligations.EveryOperationCompletes := by
  unfold Obligations.EveryOperationCompletes
  exact fun i s => ⟨_, exec_eq_result i s⟩

/-! ### Lists of operations -/

/-- The state a list of operations leads to. -/
def runResult (ops : List Instr) (s : State) : State := ops.foldl (fun u i => result i u) s

@[simp] theorem runResult_nil (s : State) : runResult [] s = s := rfl

@[simp] theorem runResult_cons (i : Instr) (later : List Instr) (s : State) :
    runResult (i :: later) s = runResult later (result i s) := rfl

@[simp] theorem runResult_append (first second : List Instr) (s : State) :
    runResult (first ++ second) s = runResult second (runResult first s) :=
  List.foldl_append

theorem runOps_eq_runResult (ops : List Instr) (s : State) : runOps ops s = .next (runResult ops s) := by
  induction ops generalizing s with
  | nil => rfl
  | cons i later ih => rw [runOps_cons_next (exec_eq_result i s), ih, runResult_cons]

@[simp] theorem visited_nil (s : State) : visited [] s = [] := rfl

@[simp] theorem visited_cons (i : Instr) (later : List Instr) (s : State) :
    visited (i :: later) s = result i s :: visited later (result i s) :=
  visited_cons_next (exec_eq_result i s) later

theorem visited_append (first second : List Instr) (s : State) :
    visited (first ++ second) s = visited first s ++ visited second (runResult first s) := by
  induction first generalizing s with
  | nil => rfl
  | cons i later ih => simp [ih]

/-- A property that every operation keeps, wherever it leads to a state with `Q`, holds along a run of such states. -/
theorem forall_mem_visited_of {P Q : State → Prop} (hstep : ∀ i s, P s → Q (result i s) → P (result i s))
    {ops : List Instr} {s : State} (hs : P s) (hQ : ∀ t ∈ visited ops s, Q t) : ∀ t ∈ visited ops s, P t := by
  induction ops generalizing s with
  | nil => simp
  | cons i later ih =>
    simp only [visited_cons, List.forall_mem_cons] at hQ ⊢
    have ht := hstep i s hs hQ.1
    exact ⟨ht, ih ht hQ.2⟩

/-- A property of every state that an operation leads to holds of every state a run visits. -/
theorem forall_mem_visited_result {P : State → Prop} (h : ∀ i s, P (result i s)) (ops : List Instr) (s : State) :
    ∀ t ∈ visited ops s, P t := by
  induction ops generalizing s with
  | nil => simp
  | cons i later ih =>
    rw [visited_cons, List.forall_mem_cons]
    exact ⟨h i s, ih _⟩

/-! ### One step -/

theorem step_of_nil {s : State} (h : s.trace = []) : step s = .next s := by
  unfold step
  rw [h]

theorem step_of_ok {s : State} {w : Word} {rest : List Word} {i : Instr} (h : s.trace = w :: rest)
    (hw : decode w = .ok i) : step s = exec i { s with trace := rest } := by
  unfold step
  simp only [h, hw]

theorem step_of_error {s : State} {w : Word} {rest : List Word} {why : DecodeError} (h : s.trace = w :: rest)
    (hw : decode w = .error why) : step s = .refused (.reservedWord w why) := by
  unfold step
  simp only [h, hw]

/-- All that a step can do: stand idle, execute the operation in front, or refuse a reserved word. -/
theorem step_cases (s : State) :
    (s.trace = [] ∧ step s = .next s)
      ∨ (∃ w rest i, s.trace = w :: rest ∧ decode w = .ok i ∧ step s = .next (result i { s with trace := rest }))
      ∨ ∃ w rest why, s.trace = w :: rest ∧ decode w = .error why ∧ step s = .refused (.reservedWord w why) := by
  match htrace : s.trace with
  | [] => exact .inl ⟨rfl, step_of_nil htrace⟩
  | w :: rest =>
    match hw : decode w with
    | .ok i => exact .inr (.inl ⟨w, rest, i, rfl, hw, (step_of_ok htrace hw).trans (exec_eq_result ..)⟩)
    | .error why => exact .inr (.inr ⟨w, rest, why, rfl, hw, step_of_error htrace hw⟩)

/-- What leads to a next state: an idle step or the operation in front. -/
theorem step_eq_next {s t : State} (h : step s = .next t) :
    (s.trace = [] ∧ t = s)
      ∨ ∃ w rest i, s.trace = w :: rest ∧ decode w = .ok i ∧ t = result i { s with trace := rest } := by
  obtain ⟨htrace, hs⟩ | ⟨w, rest, i, htrace, hw, hs⟩ | ⟨w, rest, why, -, -, hs⟩ := step_cases s
  all_goals rw [hs] at h; cases h
  · exact .inl ⟨htrace, rfl⟩
  · exact .inr ⟨w, rest, i, htrace, hw, rfl⟩

/-- What holds of every operation holds of every step, where a property does not speak of the trace. -/
theorem step_keeps {P : State → Prop} (htrace : ∀ s tr, P s → P { s with trace := tr })
    (hresult : ∀ i s, P s → P (result i s)) {s t : State} (hs : P s) (h : step s = .next t) : P t := by
  obtain ⟨-, rfl⟩ | ⟨w, rest, i, -, -, rfl⟩ := step_eq_next h
  · exact hs
  · exact hresult i _ (htrace s rest hs)

/-- A run of one step more, of any machine. -/
theorem core_run_succ (M : Host.Core) {s t : M.State} (h : M.step s = .next t) (n : Nat) :
    M.run (n + 1) s = M.run n t := by
  rw [Host.Core.run, h]

theorem run_succ {s t : State} (h : step s = .next t) (n : Nat) :
    Host.Core.run Sys2Proof.core (n + 1) s = Host.Core.run Sys2Proof.core n t :=
  core_run_succ Sys2Proof.core h n

/-- Settles O5. -/
theorem stepExecutesTheDecodedOperation : Obligations.StepExecutesTheDecodedOperation := by
  unfold Obligations.StepExecutesTheDecodedOperation
  exact fun s w rest i => step_of_ok

/-- Settles O6: of the three cases of a step one is a refusal and none a fault. -/
theorem stepRefusesExactlyReservedWords : Obligations.StepRefusesExactlyReservedWords := by
  unfold Obligations.StepRefusesExactlyReservedWords
  refine ⟨fun s w rest why => step_of_error, fun s r h => ?_, fun s r => nomatch r⟩
  obtain ⟨-, hs⟩ | ⟨_, _, _, -, -, hs⟩ | ⟨w, rest, why, htrace, hw, hs⟩ := step_cases s
  all_goals rw [hs] at h; cases h
  exact ⟨w, rest, why, htrace, hw, rfl⟩

/-- Settles O7. -/
theorem stepWithoutEventChangesNothing : Obligations.StepWithoutEventChangesNothing := by
  unfold Obligations.StepWithoutEventChangesNothing
  exact fun s => step_of_nil

/-- Settles O47: an operation keeps both fields, so a step takes the word in front and no more. -/
theorem configurationNeverChanges : Obligations.ConfigurationNeverChanges := by
  unfold Obligations.ConfigurationNeverChanges
  intro s t h
  obtain ⟨htrace, rfl⟩ | ⟨w, rest, i, htrace, -, rfl⟩ := step_eq_next h
  · simp [htrace]
  · simp [htrace]

/-! ### The edges and the pin -/

/-- Settles O9: the slot of the model counts modulo 11 by its type. -/
theorem driveEdgeFullEffect : Obligations.DriveEdgeFullEffect := by
  unfold Obligations.DriveEdgeFullEffect
  exact fun s => rfl

/-- Settles O10: outside slot 0 the lower bound of the pin rule holds. -/
theorem measurementEdgeOutsideSlotZero : Obligations.MeasurementEdgeOutsideSlotZero := by
  unfold Obligations.MeasurementEdgeOutsideSlotZero
  intro s sample adcOk disc holder hslot
  have hpos : 1 ≤ s.slot.val := Nat.one_le_iff_ne_zero.2 (Fin.val_ne_of_ne hslot)
  rw [exec_eq_result, result_zcm, measurementEdge_other_slot hslot]
  simp [drive, beginOp, driveLevel_eq, hpos]

/-- Only an edge and a reset write the pin (R122). -/
theorem result_pin {i : Instr} (hedge : isEdge i = false) (hrst : i ≠ .rst) (s : State) :
    (result i s).pin = s.pin := by
  cases i with
  | zcm | zcd => cases hedge
  | rst => exact absurd rfl hrst
  | tick => exact tickOnce_pin s
  | wrg => exact hostWrite_pin ..
  | rfr | rds => rfl

/-- Settles O28. -/
theorem heaterChangesOnlyAtEdgesAndReset : Obligations.HeaterChangesOnlyAtEdgesAndReset := by
  unfold Obligations.HeaterChangesOnlyAtEdgesAndReset
  exact fun i s => ⟨_, exec_eq_result i s, rfl, fun hedge hrst => result_pin hedge hrst s⟩

/-! ### The host register space -/

/-- The registers with a number of 3 or more take no write. -/
theorem hostWrite_of_number {reg : HostReg} (h : 3 ≤ reg.number.toNat) (data : Half) (s : State) :
    hostWrite reg data s = s := by
  apply hostWrite_readOnly <;> rintro rfl <;> revert h <;> decide

/-- The registers with a number below 3 are the gains. -/
theorem gain_of_number {reg : HostReg} (h : reg.number.toNat < 3) :
    reg = .kp100 ∨ reg = .ki100 ∨ reg = .kd100 := by
  revert h
  cases reg <;> decide

/-- Settles O40. -/
theorem hostWriteFullEffect : Obligations.HostWriteFullEffect := by
  unfold Obligations.HostWriteFullEffect
  refine fun s data => ⟨rfl, rfl, rfl, fun reg h => ?_⟩
  rw [exec_eq_result, result_wrg, hostWrite_of_number h]
  rfl

/-- Settles O41. -/
theorem hostReadFullEffect : Obligations.HostReadFullEffect := by
  unfold Obligations.HostReadFullEffect
  refine ⟨fun s reg => rfl, fun s reg data h => ⟨_, runOps_eq_runResult _ s, ?_⟩⟩
  simp [outputPorts, hostRead_hostWrite (gain_of_number h)]

/-! ### Reset and the configuration -/

/-- Settles O44. -/
theorem resetFullEffect : Obligations.ResetFullEffect := by
  unfold Obligations.ResetFullEffect
  exact fun s => rfl

/-- A read sees no more of a reset than the reset values. -/
theorem hostRead_resetAll (reg : HostReg) (s : State) : hostRead reg (resetAll s) = hostRead reg State.reset := by
  cases reg <;> rfl

theorem hostRead_reset (reg : HostReg) :
    hostRead reg State.reset =
      if reg = .kp100 then 170 else if reg = .ki100 then 15 else if reg = .kd100 then 50 else 0 := by
  cases reg <;> decide

/-- Settles O45: the read views of the reset values. -/
theorem registersAfterReset : Obligations.RegistersAfterReset := by
  unfold Obligations.RegistersAfterReset
  refine fun s reg => ⟨_, runOps_eq_runResult _ s, ?_⟩
  rw [← hostRead_reset, ← hostRead_resetAll reg s]
  rfl

theorem accept_of_admissible {c : Cfg} (h : c.Admissible) : c.accept = some ⟨c, h⟩ :=
  dif_pos ((Cfg.check_iff c).2 h)

theorem accept_of_not_admissible {c : Cfg} (h : ¬ c.Admissible) : c.accept = none :=
  dif_neg fun hcheck => h ((Cfg.check_iff c).1 hcheck)

/-- Settles O46: the check that loads a configuration decides admissibility. -/
theorem inadmissibleConfigurationRefused : Obligations.InadmissibleConfigurationRefused := by
  unfold Obligations.InadmissibleConfigurationRefused
  intro c s
  constructor
  · intro h
    rw [configure, accept_of_not_admissible h]
  · intro h
    rw [configure, accept_of_admissible h]
    exact ⟨_, rfl, rfl, rfl⟩

/-! ### Ownership -/

theorem sameSeq_result {i : Instr} (h : agentOf i ≠ some .seq) (hrst : i ≠ .rst) (s : State) :
    SameSeq s (result i s) := by
  cases i with
  | zcm | zcd => exact absurd rfl h
  | rst => exact absurd rfl hrst
  | tick => simp [SameSeq]
  | wrg => simp [SameSeq]
  | rfr | rds => repeat' constructor

theorem sameMode_result {i : Instr} (h : agentOf i ≠ some .mode) (hrst : i ≠ .rst) (s : State) :
    SameMode s (result i s) := by
  cases i with
  | rfr => exact absurd rfl h
  | rst => exact absurd rfl hrst
  | zcm => simp [SameMode]
  | tick => simp [SameMode]
  | wrg => simp [SameMode]
  | zcd | rds => repeat' constructor

theorem sameTicker_result {i : Instr} (h : agentOf i ≠ some .ticker) (hrst : i ≠ .rst) (s : State) :
    SameTicker s (result i s) := by
  cases i with
  | tick => exact absurd rfl h
  | rst => exact absurd rfl hrst
  | zcm => simp [SameTicker]
  | wrg => simp [SameTicker]
  | zcd | rfr | rds => repeat' constructor

theorem sameHost_result {i : Instr} (h : agentOf i ≠ some .host) (hrst : i ≠ .rst) (s : State) :
    SameHost s (result i s) := by
  cases i with
  | wrg | rds => exact absurd rfl h
  | rst => exact absurd rfl hrst
  | zcm => simp [SameHost]
  | tick => simp [SameHost]
  | zcd | rfr => repeat' constructor

/-- The count of the hold is written by a refresh and a tick only. -/
theorem result_holdPeriods {i : Instr} (hmode : agentOf i ≠ some .mode) (hticker : agentOf i ≠ some .ticker)
    (hrst : i ≠ .rst) (s : State) : (result i s).holdPeriods = s.holdPeriods := by
  cases i with
  | rfr => exact absurd rfl hmode
  | tick => exact absurd rfl hticker
  | rst => exact absurd rfl hrst
  | zcm => exact measurementEdge_holdPeriods ..
  | wrg => exact hostWrite_holdPeriods ..
  | zcd | rds => rfl

/-- Settles O51: agent by agent. -/
theorem writeOwnership : Obligations.WriteOwnership := by
  unfold Obligations.WriteOwnership
  intro i s t hrst h
  obtain rfl := exec_eq_next.1 h
  exact ⟨fun hi => sameSeq_result hi hrst s, fun hi => sameMode_result hi hrst s, fun hi => sameTicker_result hi hrst s,
    fun hi => sameHost_result hi hrst s, fun hmode hticker => result_holdPeriods hmode hticker hrst s⟩

end Sys2Proof.Proofs.Operations

/-! PROOFS. The read views of the host registers (spec/30_encoding.md section 3): the bits and the value of `STATUS`,
and the views of the elements that the invariant keeps inside their fields. -/

namespace Sys2Proof.Proofs.Views
open Sys2Proof.Machine Sys2Proof.Laws

/-! ### `STATUS` -/

theorem hostRead_status (s : State) : hostRead .status s = statusWord s := rfl

/-- The warm-up field of R96. -/
theorem statusWord_warmup (s : State) : (statusWord s).extractLsb' 8 2 = BitVec.ofNat 2 s.warmup.val := by
  apply BitVec.eq_of_getLsbD_eq
  intro i hi
  simp only [statusWord, BitVec.getLsbD_extractLsb', BitVec.getLsbD_append, BitVec.getLsbD_ofBool]
  interval_cases i <;> simp

/-- The mode field of R96. -/
theorem statusWord_mode (s : State) : (statusWord s).extractLsb' 10 2 = s.modeState.code := by
  apply BitVec.eq_of_getLsbD_eq
  intro i hi
  simp only [statusWord, BitVec.getLsbD_extractLsb', BitVec.getLsbD_append, BitVec.getLsbD_ofBool]
  interval_cases i <;> simp

/-- The unused field of R96. -/
theorem statusWord_high (s : State) : (statusWord s).extractLsb' 13 3 = 0#3 := by
  apply BitVec.eq_of_getLsbD_eq
  intro i hi
  simp only [statusWord, BitVec.getLsbD_extractLsb', BitVec.getLsbD_append, BitVec.getLsbD_ofBool]
  interval_cases i <;> simp

/-- Settles O43: a bit is found by its place among the fields of R96. -/
theorem statusBits : Obligations.StatusBits := by
  unfold Obligations.StatusBits
  intro s
  simp only [hostRead_status, statusWord_warmup, statusWord_high]
  refine ⟨?_, ?_, ?_, ?_, ?_, ?_, ?_, ?_, ?warmup, ?mode, ?_, trivial⟩
  case warmup => rw [BitVec.toNat_ofNat, Nat.mod_eq_of_lt s.warmup.isLt]
  case mode =>
    rw [statusWord_mode]
    cases s.modeState <;> rfl
  all_goals
    simp only [statusWord, BitVec.getLsbD_append, BitVec.getLsbD_ofBool]
    simp [recentlyChanged]

/-- R230: a condition is shown by the bit of `STATUS` that its code names. -/
theorem status_shows_flag (c : Condition) (s : State) : (hostRead .status s).getLsbD c.statusBit = c.flag s := by
  obtain ⟨-, -, htip, hdisc, -, hrunaway, -⟩ := statusBits s
  cases c with
  | adcTimeout => exact htip
  | sensorRange => exact htip
  | runaway => exact hrunaway
  | disconnected => exact hdisc

theorem toNat_append {m n : Nat} (x : BitVec m) (y : BitVec n) : (x ++ y).toNat = x.toNat * 2 ^ n + y.toNat := by
  rw [BitVec.toNat_append, ← Nat.shiftLeft_add_eq_or_of_lt y.isLt, Nat.shiftLeft_eq]

/-- `STATUS` as the sum of its fields at their places (R96). -/
theorem toNat_statusWord (s : State) :
    (statusWord s).toNat
      = s.pin.toNat + 2 * s.outputEnabled.toNat + 4 * s.tipRemoved.toNat + 8 * s.ironDisconnected.toNat
        + 16 * s.ironInHolder.toNat + 32 * s.runaway.toNat + 64 * s.hystOn.toNat + 128 * s.blinkPhase.toNat
        + 256 * s.warmup.val + 1024 * s.modeState.code.toNat + 4096 * (decide (0 < s.holdPeriods)).toNat := by
  have hwarmup : s.warmup.val % 2 ^ 2 = s.warmup.val := Nat.mod_eq_of_lt s.warmup.isLt
  simp only [statusWord, toNat_append, BitVec.toNat_ofBool, BitVec.toNat_ofNat, recentlyChanged, hwarmup]
  omega

/-! ### The views of numbers -/

/-- An unsigned element that fits its field is shown exactly (R97). -/
theorem toNat_unsignedView {n v : Nat} (hn : n ≤ 16) (hv : v < 2 ^ n) : (unsignedView n v).toNat = v := by
  rw [unsignedView, BitVec.toNat_setWidth_of_le hn, BitVec.toNat_ofNat, Nat.mod_eq_of_lt hv]

/-- A signed element inside the 16-bit range is its own residue (R97). -/
theorem bmod_of_range {x : Int} (h : -32765 ≤ x ∧ x ≤ 32765) : x.bmod (2 ^ 16) = x := by
  simp only [Int.bmod]
  omega

/-- The two halves of the clock, put together. -/
theorem clock_halves (clock : BitVec 32) : clock.extractLsb' 16 16 ++ clock.extractLsb' 0 16 = clock := by
  apply BitVec.eq_of_getLsbD_eq
  intro i hi
  rw [BitVec.getLsbD_append]
  split
  · simp [*]
  · simp [show i - 16 < 16 by omega, show 16 + (i - 16) = i by omega]

/-- Settles O42: the invariant bounds every unsigned element by the width of its field. -/
theorem hostViewsAreExact : Obligations.HostViewsAreExact := by
  unfold Obligations.HostViewsAreExact
  intro s h
  have hslot := s.slot.isLt
  have hduty := h.duty.2
  have hdutyFiltered := h.dutyFiltered.2
  have hdispDuty := h.dispDuty.2
  have hbackup := h.backup
  have hdispSetpoint := h.dispSetpoint
  have hsetpoint : s.setpoint ≤ 450 := by
    have := h.setpoint
    omega
  have hhold : s.holdPeriods ≤ 255 := h.hold.trans s.config.admissible.blinkHold_le
  refine ⟨rfl, rfl, rfl, toNat_unsignedView (by omega) (by omega), toNat_statusWord s,
    toNat_unsignedView (by omega) (by omega), toNat_unsignedView (by omega) (by omega),
    toNat_unsignedView (by omega) (by omega), toNat_unsignedView (by omega) (by omega),
    toNat_unsignedView (by omega) (by omega), toNat_unsignedView (by omega) (by omega),
    toNat_unsignedView (by omega) (by omega), clock_halves s.msClock, BitVec.toInt_ofInt _, BitVec.toInt_ofInt _, ?_⟩
  intro hidentity
  obtain ⟨hfiltered, hdispTemp⟩ := h.range hidentity
  exact ⟨(BitVec.toInt_ofInt _).trans (bmod_of_range hfiltered),
    (BitVec.toInt_ofInt _).trans (bmod_of_range hdispTemp)⟩

end Sys2Proof.Proofs.Views

/-! PROOFS. The evaluation (spec/40_sequencer.md, spec/41_acquisition.md, spec/60_exceptions.md): what one `ZCM` in
slot 0 leaves in the flags, the temperatures, the enable and the filtered duty, and what it does not touch. -/

namespace Sys2Proof.Proofs.Evaluation
open Sys2Proof.Machine Sys2Proof.Laws Sys2Proof.Proofs.Operations Sys2Proof.Proofs.Views

/-! ### The shape of an evaluation -/

/-- A `ZCM` in slot 0: sampling gate, evaluation, pin (R111). -/
theorem exec_zcm_evaluates {s : State} (hslot : s.slot = 0) (sample : Nat) (adcOk disc holder : Bool) :
    exec (.zcm sample adcOk disc holder) s
      = .next (drive (evaluate sample adcOk disc holder (startConversion s))) := by
  rw [exec_eq_result, result_zcm, measurementEdge_slot_zero hslot]

/-- Acquisition, then control law and output filter unless it failed (R114): the part before the sensor levels are
looked at. -/
def controlled (sample : Nat) (adcOk : Bool) (s : State) : State :=
  let acquired := (acquire sample adcOk s).2
  if acquired.tipRemoved then acquired else outFilter (controlLaw acquired)

theorem evaluate_eq_safety (sample : Nat) (adcOk disc holder : Bool) (s : State) :
    evaluate sample adcOk disc holder s
      = safety disc holder (acquire sample adcOk s).1 (controlled sample adcOk s) := rfl

/-- The two failures of R131 in one. -/
theorem not_completed {sample : Nat} {adcOk : Bool} (h : adcOk = false ∨ 3500 < sample) :
    ¬ (adcOk = true ∧ sample ≤ 3500) := by
  rintro ⟨rfl, hle⟩
  obtain h | h := h
  · cases h
  · exact Nat.not_lt.2 hle h

/-- R131 with R116: the whole effect of a `ZCM` in slot 0 whose acquisition fails. -/
theorem measurementEdge_failed {s : State} (hslot : s.slot = 0) {sample : Nat} {adcOk : Bool}
    (h : ¬ (adcOk = true ∧ sample ≤ 3500)) (disc holder : Bool) :
    measurementEdge sample adcOk disc holder s =
      { s with
        tipRemoved := true, runaway := false, ironDisconnected := disc, ironInHolder := holder
        outputEnabled := false, outputDuty := 0, outputDutyFiltered := 0, pin := false
        out := { adcStart := true } } := by
  rw [measurementEdge_slot_zero hslot, evaluate_failed h]
  rfl

/-- Settles O12: outside slot 0 the operands are ignored, in slot 0 both samples fail. -/
theorem adcTimeoutActsAsSensorRange : Obligations.AdcTimeoutActsAsSensorRange := by
  unfold Obligations.AdcTimeoutActsAsSensorRange
  intro s sample high disc holder hhigh
  rw [exec_eq_result, exec_eq_result, result_zcm, result_zcm]
  by_cases hslot : s.slot = 0
  · rw [measurementEdge_failed hslot (not_completed (.inl rfl)),
      measurementEdge_failed hslot (not_completed (.inr hhigh))]
  · rw [measurementEdge_other_slot hslot, measurementEdge_other_slot hslot]

/-! ### Flags and enable -/

/-- R131 and R135: a runaway is found by a completed acquisition only, from the new temperature. -/
theorem acquire_runaway_iff (sample : Nat) (adcOk : Bool) (s : State) :
    (acquire sample adcOk s).2.runaway = true ↔
      (adcOk = true ∧ sample ≤ 3500)
        ∧ 10 * (acquire sample adcOk s).2.filteredTemperature > 11 * (s.setpoint : Int) := by
  by_cases h : adcOk = true ∧ sample ≤ 3500
  · rw [acquire_completed h]
    simp [h, runawayTest_eq]
  · simp [acquire_failed h, h]

/-- R117: what an enable rests on. -/
theorem evaluate_outputEnabled_iff (sample : Nat) (adcOk disc holder : Bool) (s : State) :
    (evaluate sample adcOk disc holder s).outputEnabled = true ↔
      (adcOk = true ∧ sample ≤ 3500) ∧ disc = false
        ∧ (evaluate sample adcOk disc holder s).runaway = false ∧ s.warmup.val = 3 := by
  rw [evaluate_outputEnabled, Bool.and_eq_true, acquire_enableReq, evaluate_runaway, Bool.not_eq_true']
  tauto

/-- Settles O23: the absence of a runaway is the comparison of R135. -/
theorem outputEnabledExactlyWhen : Obligations.OutputEnabledExactlyWhen := by
  unfold Obligations.OutputEnabledExactlyWhen
  intro s sample adcOk disc holder hslot
  refine ⟨_, exec_zcm_evaluates hslot sample adcOk disc holder, ?_⟩
  have hrunaway := acquire_runaway_iff sample adcOk (startConversion s)
  rw [drive_outputEnabled, evaluate_outputEnabled_iff, evaluate_runaway, drive_filteredTemperature,
    evaluate_filteredTemperature, ← Bool.not_eq_true (acquire _ _ _).2.runaway, hrunaway]
  simp only [startConversion_setpoint, startConversion_warmup]
  constructor
  · rintro ⟨hok, hdisc, hcold, hwarm⟩
    exact ⟨hok.1, hok.2, hdisc, not_lt.1 fun hhot => hcold ⟨hok, hhot⟩, hwarm⟩
  · rintro ⟨hadc, hsample, hdisc, hcold, hwarm⟩
    exact ⟨⟨hadc, hsample⟩, hdisc, fun hhot => not_lt.2 hcold hhot.2, hwarm⟩

/-- Settles O15: each flag by what the evaluation writes, and the codes by the bits of `STATUS`. -/
theorem conditionsAndTheirRecord : Obligations.ConditionsAndTheirRecord := by
  unfold Obligations.ConditionsAndTheirRecord
  refine ⟨fun s sample adcOk disc holder hslot => ?_, status_shows_flag⟩
  refine ⟨_, exec_zcm_evaluates hslot sample adcOk disc holder, ?tip, ?runaway, ?disc, ?holder, ?exclusive⟩
  case tip =>
    simp only [drive_tipRemoved, evaluate_tipRemoved]
    cases adcOk <;> simp
  case runaway => simp [acquire_runaway_iff, and_assoc]
  case disc => simp
  case holder => simp
  case exclusive =>
    simp only [drive_tipRemoved, evaluate_tipRemoved, drive_runaway, evaluate_runaway, acquire_runaway_iff]
    rintro ⟨htip, ⟨rfl, hsample⟩, -⟩
    simp [hsample] at htip

/-! ### Sensor level -/

/-- Settles O13: up to the safety-flag update the two evaluations are the same. -/
theorem disconnectionForcesOutputOff : Obligations.DisconnectionForcesOutputOff := by
  unfold Obligations.DisconnectionForcesOutputOff
  intro s sample adcOk holder hslot
  refine ⟨_, _, exec_zcm_evaluates hslot sample adcOk true holder,
    exec_zcm_evaluates hslot sample adcOk false holder, ?_⟩
  refine ⟨?level, ?status, ?enabled, ?duty, ?dutyFiltered, ?pin, ?_, ?_, ?_, ?_, ?_, ?_, ?_, ?_, ?clears⟩
  case level => simp
  case status => exact (status_shows_flag .disconnected _).trans (by simp [Condition.flag])
  case clears =>
    intro later ok h
    exact ⟨_, exec_zcm_evaluates (by simp [hslot]) later ok false h, by simp⟩
  all_goals simp [evaluate_eq_safety]

/-! ### Temperatures and warm-up -/

/-- The identity rounding of R14. -/
theorem rnd_of_identity {c : Cfg} (h : c.rounding = .identity) (x : Rat) : c.rnd x = x := by
  rw [Cfg.rnd, h, Rounding.apply]

/-- Settles O16: a failed acquisition by its whole effect, a completed one by what `ACQUIRE` writes. -/
theorem acquisitionProcedure : Obligations.AcquisitionProcedure := by
  unfold Obligations.AcquisitionProcedure
  intro s sample adcOk disc holder hslot
  refine ⟨_, exec_zcm_evaluates hslot sample adcOk disc holder, ?failed, ?completed⟩
  case failed =>
    intro h
    rw [evaluate_failed (not_completed h)]
    exact ⟨rfl, rfl, rfl, rfl, rfl, rfl⟩
  case completed =>
    intro h
    rw [evaluate_completed h]
    refine ⟨?tip, ?measured, ?filtered, ?runaway, ?warmup, ?enabled⟩
    case tip => simp
    case measured => simp [sampleTemperature, State.cfg]
    case filtered => simp [round5_eq, filterValue_eq, rat_floor_eq, State.cfg]; norm_num
    case runaway => simp [runawayTest_eq]
    case warmup => simp [nextWarmup_val]
    case enabled =>
      rintro rfl
      simp [acquireCompleted, isWarm_eq]

/-- R138(c): the filter moves the temperature by three fifths of the difference, the rounding by 5/2 more. -/
theorem abs_round5_filter_sub_le (temperature : Rat) (previous : Int) :
    |(round5 (3 / 5 * temperature + (1 - 3 / 5) * previous) : Rat) - previous|
      ≤ 3 / 5 * |temperature - previous| + 5 / 2 := by
  obtain ⟨hlo, hhi⟩ := round5_error (3 / 5 * temperature + (1 - 3 / 5) * previous)
  have hpos := le_abs_self (temperature - previous)
  have hneg := neg_abs_le (temperature - previous)
  rw [abs_le]
  constructor <;> linarith

/-- Settles O17. -/
theorem filterStepBounded : Obligations.FilterStepBounded := by
  unfold Obligations.FilterStepBounded
  intro s sample disc holder hslot hsample
  refine ⟨_, exec_zcm_evaluates hslot sample true disc holder, ?_⟩
  rw [evaluate_completed ⟨rfl, hsample⟩]
  constructor
  · simpa using round5_dvd _
  · intro hidentity
    simp only [drive_filteredTemperature, safety_filteredTemperature, outFilter_filteredTemperature,
      controlLaw_filteredTemperature, acquireCompleted_filteredTemperature, startConversion_filteredTemperature,
      drive_measuredTemperature, safety_measuredTemperature, outFilter_measuredTemperature,
      controlLaw_measuredTemperature, acquireCompleted_measuredTemperature, filterValue_eq,
      rnd_of_identity (c := (startConversion s).cfg) hidentity]
    exact abs_round5_filter_sub_le _ _

/-! ### The filtered duty -/

/-- The output filter as R160 writes it: nothing is lost in making it a natural number. -/
theorem filterDuty_cast (duty previous : Nat) :
    (filterDuty duty previous : Int) = 10 * ⌊(1 / 2 * (duty : Rat) + 1 / 2 * (previous : Rat)) / 10⌋ := by
  have hnonneg : 0 ≤ ⌊(1 / 2 * (duty : Rat) + 1 / 2 * (previous : Rat)) / 10⌋ := Int.floor_nonneg.2 (by positivity)
  have hdef : filterDuty duty previous = (floor10 (1 / 2 * duty + 1 / 2 * previous)).toNat := rfl
  rw [hdef, floor10_eq, rat_floor_eq]
  omega

/-- Settles O21: without a safety flag the output filter is the last to write the filtered duty. -/
theorem outputFilterStep : Obligations.OutputFilterStep := by
  unfold Obligations.OutputFilterStep
  intro s sample holder hslot hsample
  refine ⟨_, exec_zcm_evaluates hslot sample true false holder, ?_⟩
  rw [evaluate_completed ⟨rfl, hsample⟩]
  simpa using filterDuty_cast _ s.outputDutyFiltered

/-! ### What an evaluation leaves -/

/-- Settles O24: field by field, the fields no part of an evaluation writes. -/
theorem evaluationFrame : Obligations.EvaluationFrame := by
  unfold Obligations.EvaluationFrame
  intro s sample adcOk disc holder hslot
  refine ⟨_, exec_zcm_evaluates hslot sample adcOk disc holder, ?_⟩
  simp [SameMode, SameTicker, SameHost, hslot]

end Sys2Proof.Proofs.Evaluation

/-! PROOFS. The drive slots of a cycle (spec/40_sequencer.md section 4): between two evaluations every edge leaves the
state as it was but for slot, pin and outputs, so a run of slot pairs has a closed form. -/

namespace Sys2Proof.Proofs.Cycle
open Sys2Proof.Machine Sys2Proof.Laws Sys2Proof.Proofs.Operations Sys2Proof.Proofs.Views Sys2Proof.Proofs.Evaluation

/-! ### A state at a slot -/

/-- The state with the sequencer in a slot, the pin as the pin rule gives it there (R113) and no output pulsed. -/
def atSlot (k : Fin 11) (s : State) : State :=
  { s with slot := k, pin := driveLevel s.outputEnabled k s.outputDuty, out := {} }

@[simp] theorem atSlot_slot (k : Fin 11) (s : State) : (atSlot k s).slot = k := rfl

@[simp] theorem atSlot_pin (k : Fin 11) (s : State) :
    (atSlot k s).pin = driveLevel s.outputEnabled k s.outputDuty := rfl

@[simp] theorem atSlot_out (k : Fin 11) (s : State) : (atSlot k s).out = {} := rfl

@[simp] theorem atSlot_atSlot (k j : Fin 11) (s : State) : atSlot k (atSlot j s) = atSlot k s := rfl

theorem driveEdge_eq_atSlot (s : State) : driveEdge s = atSlot (s.slot + 1) s := rfl

theorem measurementEdge_eq_atSlot {s : State} (h : s.slot ≠ 0) (sample : Nat) (adcOk disc holder : Bool) :
    measurementEdge sample adcOk disc holder s = atSlot s.slot s := by
  rw [measurementEdge_other_slot h]
  rfl

theorem atSlot_pin_of_disabled {s : State} (h : s.outputEnabled = false) (k : Fin 11) : (atSlot k s).pin = false := by
  rw [atSlot_pin, h, driveLevel_disabled]

/-! ### Slot pairs -/

/-- The slot after a number of drive edges. -/
def slotAfter (s : State) (n : Nat) : Fin 11 := s.slot + Fin.ofNat 11 n

theorem slotAfter_one (s : State) : slotAfter s 1 = s.slot + 1 := rfl

theorem slotAfter_val {s : State} {n : Nat} (h : s.slot.val + n ≤ 10) : (slotAfter s n).val = s.slot.val + n := by
  simp only [slotAfter, Fin.val_add, Fin.val_ofNat]
  omega

theorem slotAfter_ne_zero {s : State} {n : Nat} (hn : 1 ≤ n) (h : s.slot.val + n ≤ 10) : slotAfter s n ≠ 0 := by
  intro hzero
  have hval := slotAfter_val h
  rw [hzero, Fin.val_zero] at hval
  omega

theorem slotAfter_atSlot (s : State) (m n : Nat) :
    slotAfter (atSlot (slotAfter s m) s) n = slotAfter s (m + n) := by
  ext
  simp only [slotAfter, atSlot_slot, Fin.val_add, Fin.val_ofNat]
  omega

theorem slotPairs_succ (n : Nat) : slotPairs (n + 1) = slotPair ++ slotPairs n := by
  rw [slotPairs, List.replicate_succ, List.flatten_cons, ← slotPairs]

section
variable {s : State}

theorem runResult_slotPair (h : s.slot.val + 1 ≤ 10) : runResult slotPair s = atSlot (slotAfter s 1) s := by
  simp only [slotPair, runResult_cons, runResult_nil, result_zcd, result_zcm, driveEdge_eq_atSlot, ← slotAfter_one]
  rw [measurementEdge_eq_atSlot (slotAfter_ne_zero le_rfl h), atSlot_slot, atSlot_atSlot]

theorem visited_slotPair (h : s.slot.val + 1 ≤ 10) :
    visited slotPair s = [atSlot (slotAfter s 1) s, atSlot (slotAfter s 1) s] := by
  have hrun := runResult_slotPair h
  simp only [slotPair, runResult_cons, runResult_nil] at hrun
  simp only [slotPair, visited_cons, visited_nil, hrun]
  rfl

/-- Slot pairs that stay inside the cycle, as a whole. -/
theorem runResult_slotPairs {n : Nat} (h : s.slot.val + (n + 1) ≤ 10) :
    runResult (slotPairs (n + 1)) s = atSlot (slotAfter s (n + 1)) s := by
  induction n generalizing s with
  | zero => rw [slotPairs_succ, runResult_append, runResult_slotPair h]; rfl
  | succ n ih =>
    have hval : (slotAfter s 1).val = s.slot.val + 1 := slotAfter_val (by omega)
    rw [slotPairs_succ, runResult_append, runResult_slotPair (by omega), ih (by rw [atSlot_slot]; omega),
      slotAfter_atSlot, atSlot_atSlot, Nat.add_comm 1]

/-- The states inside a number of slots: two edges in each. -/
theorem visited_slotPairs {n : Nat} (h : s.slot.val + n ≤ 10) :
    visited (slotPairs n) s
      = (List.range n).flatMap fun k => [atSlot (slotAfter s (k + 1)) s, atSlot (slotAfter s (k + 1)) s] := by
  induction n generalizing s with
  | zero => rfl
  | succ n ih =>
    have hval : (slotAfter s 1).val = s.slot.val + 1 := slotAfter_val (by omega)
    rw [slotPairs_succ, visited_append, runResult_slotPair (by omega), visited_slotPair (by omega),
      ih (by rw [atSlot_slot]; omega), List.range_succ_eq_map, List.flatMap_cons, List.flatMap_map]
    simp only [slotAfter_atSlot, atSlot_atSlot, Nat.add_comm 1]

/-- The drive edge behind a number of slot pairs. -/
theorem runResult_slotPairs_zcd {n : Nat} (h : s.slot.val + n ≤ 10) :
    runResult (slotPairs n ++ [.zcd]) s = atSlot (slotAfter s (n + 1)) s := by
  cases n with
  | zero => rfl
  | succ n =>
    rw [runResult_append, runResult_slotPairs h, runResult_cons, runResult_nil, result_zcd, driveEdge_eq_atSlot,
      ← slotAfter_one, slotAfter_atSlot, atSlot_atSlot]

/-- Every state of the ten drive slots behind an evaluation, and of the drive edge that closes the cycle, is the state
after the evaluation in another slot. -/
theorem eq_atSlot_of_mem_visited (hslot : s.slot = 0) {u : State} (hu : u ∈ visited (slotPairs 10 ++ [.zcd]) s) :
    ∃ k, u = atSlot k s := by
  have h : s.slot.val + 10 ≤ 10 := by simp [hslot]
  rw [visited_append, List.mem_append] at hu
  obtain hu | hu := hu
  · rw [visited_slotPairs h, List.mem_flatMap] at hu
    obtain ⟨k, -, hu⟩ := hu
    exact ⟨slotAfter s (k + 1), by simpa using hu⟩
  · have hlast := runResult_slotPairs_zcd h
    rw [runResult_append, runResult_cons, runResult_nil] at hlast
    rw [visited_cons, visited_nil, List.mem_singleton, hlast] at hu
    exact ⟨_, hu⟩

/-- A disabled output keeps the pin off for the whole cycle (R113). -/
theorem pin_off_over_cycle (hslot : s.slot = 0) (hoff : s.outputEnabled = false) :
    ∀ u ∈ visited (slotPairs 10 ++ [.zcd]) s, u.pin = false := by
  intro u hu
  obtain ⟨k, rfl⟩ := eq_atSlot_of_mem_visited hslot hu
  exact atSlot_pin_of_disabled hoff k

/-! ### The drive pattern -/

theorem countP_lt_range (m n : Nat) : (List.range n).countP (fun k => decide (k < m)) = min m n := by
  induction n with
  | zero => simp
  | succ n ih =>
    rw [List.range_succ, List.countP_append, ih, List.countP_singleton]
    by_cases h : n < m
    · rw [if_pos (decide_eq_true h)]
      omega
    · rw [if_neg (by simpa using h)]
      omega

/-- The pin in the n-th slot of a cycle. -/
theorem pin_in_slot (hslot : s.slot = 0) {n : Nat} (hpos : 1 ≤ n) (hle : n ≤ 10) :
    (atSlot (slotAfter s n) s).pin = (s.outputEnabled && decide (n ≤ s.outputDuty / 10)) := by
  have hval : (slotAfter s n).val = n := by rw [slotAfter_val] <;> simp [hslot, hle]
  rw [atSlot_pin, driveLevel_eq, hval]
  simp [hpos]

end

/-- A number of pairs, counted. -/
theorem countP_pairs {α : Type} (p : α → Bool) (f : Nat → α) (l : List Nat) :
    (l.flatMap fun k => [f k, f k]).countP p = 2 * l.countP fun k => p (f k) := by
  induction l with
  | nil => rfl
  | cons k l ih =>
    rw [List.flatMap_cons, List.countP_append, ih, List.countP_cons]
    cases h : p (f k) <;> simp [h]
    omega

/-- R120, the slots with the pin on: two edges in each of them. -/
theorem countP_pin_slotPairs {s : State} (hslot : s.slot = 0) (hduty : s.outputDuty ≤ 100) :
    (visited (slotPairs 10) s).countP (·.pin) = if s.outputEnabled then 2 * (s.outputDuty / 10) else 0 := by
  rw [visited_slotPairs (by simp [hslot]), countP_pairs]
  have hpin : ∀ k ∈ List.range 10, (atSlot (slotAfter s (k + 1)) s).pin
      = (s.outputEnabled && decide (k < s.outputDuty / 10)) := fun k hk =>
    pin_in_slot hslot (Nat.le_add_left ..) (List.mem_range.1 hk)
  rw [List.countP_congr (q := fun k => s.outputEnabled && decide (k < s.outputDuty / 10))
    fun k hk => by rw [hpin k hk]]
  cases s.outputEnabled with
  | false => simp
  | true =>
    simp only [Bool.true_and, countP_lt_range, if_true]
    omega

/-- Settles O25. -/
theorem dutyPatternOverACycle : Obligations.DutyPatternOverACycle := by
  unfold Obligations.DutyPatternOverACycle
  intro s hslot hduty
  refine ⟨fun n hpos hle => ?_, countP_pin_slotPairs hslot hduty.2⟩
  obtain ⟨m, rfl⟩ := Nat.exists_eq_add_of_le' hpos
  refine ⟨_, _, runOps_eq_runResult _ s, runOps_eq_runResult _ s, ?_⟩
  have hval : (slotAfter s (m + 1)).val = m + 1 := by rw [slotAfter_val] <;> simp [hslot, hle]
  have hbound : s.slot.val + (m + 1) ≤ 10 := by simpa [hslot] using hle
  rw [Nat.add_sub_cancel, runResult_slotPairs_zcd (by omega), runResult_slotPairs hbound]
  exact ⟨hval, hval, pin_in_slot hslot hpos hle, rfl⟩

/-! ### A whole cycle -/

/-- Settles O31: the eleventh drive edge comes back to slot 0, and only the evaluation pulses the ADC. -/
theorem cyclePseudoOperation : Obligations.CyclePseudoOperation := by
  unfold Obligations.CyclePseudoOperation
  intro s sample adcOk disc holder hslot
  refine ⟨_, exec_zcm_evaluates hslot sample adcOk disc holder, ?_, ?_⟩
  all_goals
    rw [cycle]
    generalize ht : drive (evaluate sample adcOk disc holder (startConversion s)) = t
    have htslot : t.slot = 0 := by simp [← ht, hslot]
    have hresult : result (.zcm sample adcOk disc holder) s = t := by
      rw [← ht, result_zcm, measurementEdge_slot_zero hslot]
  · have hback : slotAfter t 11 = 0 := by rw [slotAfter, htslot]; rfl
    rw [runOps_eq_runResult, runResult_cons, hresult, runResult_slotPairs_zcd (by simp [htslot]), hback, atSlot,
      driveLevel_slot_zero]
  · have hrest : (visited (slotPairs 10 ++ [.zcd]) t).countP (·.out.adcStart) = 0 := by
      rw [List.countP_eq_zero]
      intro u hu
      obtain ⟨k, rfl⟩ := eq_atSlot_of_mem_visited htslot hu
      simp
    rw [visited_cons, hresult, List.countP_cons, hrest]
    simp [← ht]

/-! ### Faults that keep the heater off for a cycle -/

/-- Settles O11: the whole effect is that of a failed acquisition, and each further clause is read off it. -/
theorem sensorRangeFault : Obligations.SensorRangeFault := by
  unfold Obligations.SensorRangeFault
  intro s sample disc holder hslot hsample
  refine ⟨_, exec_eq_result _ s, measurementEdge_failed hslot (not_completed (.inr hsample)) disc holder, ?_⟩
  rw [result_zcm, measurementEdge_failed hslot (not_completed (.inr hsample))]
  refine ⟨?status, pin_off_over_cycle hslot rfl, ?refresh, ?clears⟩
  case status => exact status_shows_flag .sensorRange _
  case refresh => exact fun enc h d => ⟨_, rfl, rfl⟩
  case clears =>
    intro later d h hlater
    refine ⟨_, exec_zcm_evaluates ?_ later true d h, ?_⟩
    · exact hslot
    · simp [hlater]

/-- Settles O14: a runaway asks for no enable, so the pin rule keeps the pin off. -/
theorem runawaySuppressesOneCycle : Obligations.RunawaySuppressesOneCycle := by
  unfold Obligations.RunawaySuppressesOneCycle
  intro s sample disc holder hslot hsample
  refine ⟨_, exec_zcm_evaluates hslot sample true disc holder, ?test, status_shows_flag .runaway _, ?off⟩
  case test => simp [acquire_runaway_iff, hsample]
  case off =>
    intro hrunaway
    have hoff : (drive (evaluate sample true disc holder (startConversion s))).outputEnabled = false := by
      rw [drive_outputEnabled, ← Bool.not_eq_true, evaluate_outputEnabled_iff]
      rintro ⟨-, -, hcold, -⟩
      exact absurd (hrunaway.symm.trans hcold) (by decide)
    exact ⟨hoff, pin_off_over_cycle (by simp [hslot]) hoff⟩

end Sys2Proof.Proofs.Cycle

/-! PROOFS. The edges of a trace (spec/40_sequencer.md section 4): which operations start a conversion, what alternating
edges make of the slot, and that the ports present alternating edges. -/

namespace Sys2Proof.Proofs.Edges
open Sys2Proof.Machine Sys2Proof.Laws Sys2Proof.Proofs.Operations Sys2Proof.Proofs.Evaluation

/-! ### Conversions -/

/-- The ADC is started by an evaluation and by nothing else (R104, R118). -/
@[simp] theorem result_adcStart (i : Instr) (s : State) : (result i s).out.adcStart = evaluates i s := by
  cases i with
  | zcm sample adcOk disc holder =>
    by_cases hslot : s.slot = 0
    · simp [measurementEdge_slot_zero hslot, evaluates, hslot]
    · simp [measurementEdge_other_slot hslot, evaluates, hslot]
  | tick => simp [evaluates]
  | wrg reg data => simp [evaluates]
  | zcd | rfr | rds | rst => rfl

/-- Only a measurement edge evaluates, in slot 0. -/
theorem evaluates_eq_true {i : Instr} {s : State} :
    evaluates i s = true ↔ (∃ sample adcOk disc holder, i = .zcm sample adcOk disc holder) ∧ s.slot = 0 := by
  cases i <;> simp [evaluates]

/-- A conversion leaves slot 0 with the pin off (R111). -/
theorem slot_pin_of_adcStart {i : Instr} {s : State} (h : (result i s).out.adcStart = true) :
    (result i s).slot = 0 ∧ (result i s).pin = false := by
  rw [result_adcStart, evaluates_eq_true] at h
  obtain ⟨⟨sample, adcOk, disc, holder, rfl⟩, hslot⟩ := h
  simp [measurementEdge_slot_zero hslot, hslot]

/-- Settles O27: in slot 0 the pin rule gives an off pin, and the invariant has the pin follow it. -/
theorem neverSamplingWhileDriving : Obligations.NeverSamplingWhileDriving := by
  unfold Obligations.NeverSamplingWhileDriving
  intro i s t hs h hstart
  obtain rfl := exec_eq_next.1 h
  have hslot : s.slot = 0 := (evaluates_eq_true.1 (result_adcStart i s ▸ hstart)).2
  refine ⟨(result_adcStart i s).symm.trans hstart, hslot, ?_, (slot_pin_of_adcStart hstart).2⟩
  rw [hs.pin, hslot, driveLevel_slot_zero]

/-- Without an evaluation a disabled output with its pin off stays so. -/
theorem result_stays_off {i : Instr} {s : State} (hs : s.pin = false ∧ s.outputEnabled = false)
    (h : (result i s).out.adcStart = false) : (result i s).pin = false ∧ (result i s).outputEnabled = false := by
  obtain ⟨hpin, henabled⟩ := hs
  cases i with
  | zcm sample adcOk disc holder =>
    have hslot : s.slot ≠ 0 := by
      rw [result_adcStart] at h
      simpa [evaluates] using h
    simp [measurementEdge_other_slot hslot, henabled]
  | zcd => simp [driveEdge, henabled]
  | tick => simp [hpin, henabled]
  | wrg => simp [hpin, henabled]
  | rfr | rds => exact ⟨hpin, henabled⟩
  | rst => exact ⟨rfl, rfl⟩

/-- Settles O29. -/
theorem heaterStaysOffUntilAnEvaluation : Obligations.HeaterStaysOffUntilAnEvaluation := by
  unfold Obligations.HeaterStaysOffUntilAnEvaluation
  exact fun ops s henabled hpin h => forall_mem_visited_of (fun i s => result_stays_off) ⟨hpin, henabled⟩ h

/-! ### Alternation -/

/-- Edges that alternate, the first of them a measurement edge or a drive edge as told. -/
def AlternatesFrom : Bool → List Instr → Prop
  | _, [] => True
  | meas, i :: later => (i ≠ .zcd ↔ meas = true) ∧ AlternatesFrom (!meas) later

theorem alternatesFrom_of_isChain {i : Instr} {later : List Instr}
    (h : (i :: later).IsChain fun a b => (a = .zcd) ↔ b ≠ .zcd) : AlternatesFrom (decide (i ≠ .zcd)) (i :: later) := by
  induction later generalizing i with
  | nil => simp [AlternatesFrom]
  | cons j later ih =>
    rw [List.isChain_cons_cons] at h
    have hnext : decide (j ≠ .zcd) = !decide (i ≠ .zcd) := by simp [h.1]
    exact ⟨by simp, hnext ▸ ih h.2⟩

theorem isChain_of_alternatesFrom {meas : Bool} {l : List Instr} (h : AlternatesFrom meas l) :
    l.IsChain fun a b => (a = .zcd) ↔ b ≠ .zcd := by
  induction l generalizing meas with
  | nil => exact .nil
  | cons i later ih =>
    obtain ⟨hi, hlater⟩ := h
    cases later with
    | nil => exact .singleton _
    | cons j later =>
      refine List.isChain_cons_cons.2 ⟨?_, ih hlater⟩
      rw [hlater.1, Bool.not_eq_true', ← Bool.not_eq_true, ← hi, not_not]

/-- The premise `ZC_ALTERNATE` with its first direction named. -/
theorem alternating_iff {ops : List Instr} : Alternating ops ↔ ∃ meas, AlternatesFrom meas (ops.filter isEdge) := by
  unfold Alternating
  constructor
  · intro h
    match hops : ops.filter isEdge with
    | [] => exact ⟨true, trivial⟩
    | i :: later => exact ⟨_, alternatesFrom_of_isChain (hops ▸ h)⟩
  · rintro ⟨meas, h⟩
    exact isChain_of_alternatesFrom h

/-! ### The place in a cycle -/

/-- The place in a cycle of 22 edges, the measurement edge of slot 0 first, of the edge that comes next: a measurement
edge in this slot, or the drive edge that ends it. -/
def position (meas : Bool) (s : State) : Nat := 2 * s.slot.val + if meas then 0 else 1

/-- An edge moves one place on, and the first place is the one that evaluates. -/
theorem position_of_edge {i : Instr} {meas : Bool} (hedge : isEdge i = true) (hmeas : i ≠ .zcd ↔ meas = true)
    (s : State) :
    position (!meas) (result i s) = (position meas s + 1) % 22 ∧ (evaluates i s = true ↔ position meas s = 0) := by
  have hslot := s.slot.isLt
  cases i with
  | zcm sample adcOk disc holder =>
    obtain rfl : meas = true := hmeas.1 (by simp)
    simp [position, evaluates]
    omega
  | zcd =>
    obtain rfl : meas = false := by simpa using hmeas
    simp [position, evaluates, driveEdge, Fin.val_add]
    omega
  | tick | rfr | wrg | rds | rst => cases hedge

/-- Another operation than an edge or a reset moves nothing and evaluates nothing. -/
theorem slot_of_not_edge {i : Instr} (hedge : isEdge i = false) (hrst : i ≠ .rst) (s : State) :
    (result i s).slot = s.slot ∧ evaluates i s = false := by
  have hagent : agentOf i ≠ some .seq := by
    cases i with
    | zcm | zcd => cases hedge
    | tick | rfr | wrg | rds | rst => simp [agentOf]
  refine ⟨(sameSeq_result hagent hrst s).1, ?_⟩
  cases i with
  | zcm => cases hedge
  | zcd | tick | rfr | wrg | rds | rst => rfl

/-- Alternating edges from a place in a cycle: one evaluation for each passage of the first place, and the slot of the
place they lead to. -/
theorem conversions_and_slot {ops : List Instr} {meas : Bool} (halt : AlternatesFrom meas (ops.filter isEdge))
    (hrst : .rst ∉ ops) (s : State) :
    (visited ops s).countP (·.out.adcStart)
        = (position meas s + (ops.filter isEdge).length + 21) / 22 - (position meas s + 21) / 22
      ∧ (runResult ops s).slot.val = (position meas s + (ops.filter isEdge).length) % 22 / 2 := by
  induction ops generalizing meas s with
  | nil =>
    have hslot := s.slot.isLt
    cases meas <;> simp [position] <;> omega
  | cons i later ih =>
    obtain ⟨hi, hlater⟩ : .rst ≠ i ∧ .rst ∉ later := by simpa using hrst
    rw [visited_cons, runResult_cons, List.countP_cons, result_adcStart]
    cases hedge : isEdge i with
    | false =>
      rw [List.filter_cons_of_neg (by simp [hedge])] at halt ⊢
      obtain ⟨hslot, hnone⟩ := slot_of_not_edge hedge hi.symm s
      have hposition : position meas (result i s) = position meas s := by rw [position, hslot, position]
      obtain ⟨hcount, hlast⟩ := ih halt hlater (result i s)
      rw [hcount, hlast, hposition, hnone]
      exact ⟨rfl, rfl⟩
    | true =>
      rw [List.filter_cons_of_pos hedge] at halt ⊢
      obtain ⟨hplace, heval⟩ := position_of_edge hedge halt.1 s
      obtain ⟨hcount, hlast⟩ := ih halt.2 hlater (result i s)
      have hbound : position meas s < 22 := by
        have hslot := s.slot.isLt
        unfold position
        split <;> omega
      simp only [hcount, hlast, hplace, heval, List.length_cons]
      split <;> omega

/-- R119 for twenty-two edges. -/
theorem one_evaluation_of_alternating {ops : List Instr} (halt : Alternating ops) (hrst : .rst ∉ ops)
    (hlength : (ops.filter isEdge).length = 22) (s : State) :
    (visited ops s).countP (·.out.adcStart) = 1
      ∧ (∀ t ∈ visited ops s, t.out.adcStart = true → t.slot = 0 ∧ t.pin = false)
      ∧ ∃ t, runOps ops s = .next t ∧ t.slot = s.slot := by
  obtain ⟨meas, hmeas⟩ := alternating_iff.1 halt
  obtain ⟨hcount, hslot⟩ := conversions_and_slot hmeas hrst s
  have hplace : position meas s < 22 ∧ position meas s / 2 = s.slot.val := by
    have hbound := s.slot.isLt
    unfold position
    split <;> omega
  rw [hlength] at hcount hslot
  refine ⟨by omega, forall_mem_visited_result (fun i s => slot_pin_of_adcStart) ops s, _, runOps_eq_runResult ops s, ?_⟩
  exact Fin.ext (by omega)

/-! ### Edge pairs -/

theorem edgePairs_cons (x : Nat × Bool × Bool × Bool) (entries : List (Nat × Bool × Bool × Bool)) :
    edgePairs (x :: entries) = .zcd :: .zcm x.1 x.2.1 x.2.2.1 x.2.2.2 :: edgePairs entries := rfl

/-- Pairs of edges hold edges only, a drive edge first. -/
theorem edges_of_edgePairs (entries : List (Nat × Bool × Bool × Bool)) :
    (edgePairs entries).filter isEdge = edgePairs entries ∧ AlternatesFrom false (edgePairs entries)
      ∧ .rst ∉ edgePairs entries ∧ (edgePairs entries).length = 2 * entries.length := by
  induction entries with
  | nil => simp [edgePairs, AlternatesFrom]
  | cons x entries ih =>
    obtain ⟨hfilter, halt, hrst, hlength⟩ := ih
    rw [edgePairs_cons]
    refine ⟨?_, ?_, ?_, ?_⟩
    · rw [List.filter_cons_of_pos rfl, List.filter_cons_of_pos rfl, hfilter]
    · simpa [AlternatesFrom] using halt
    · simpa using hrst
    · simp only [List.length_cons, hlength]
      omega

/-- Settles O26: eleven pairs are twenty-two alternating edges; from slot 10 the first drive edge opens slot 0. -/
theorem oneEvaluationPerSequencerCycle : Obligations.OneEvaluationPerSequencerCycle := by
  unfold Obligations.OneEvaluationPerSequencerCycle
  refine ⟨fun s ops halt hrst hlength => one_evaluation_of_alternating halt hrst hlength s, ?_⟩
  intro s entries hentries
  obtain ⟨hfilter, halt, hrst, hlength⟩ := edges_of_edgePairs entries
  obtain ⟨hcount, hgate, hslot⟩ := one_evaluation_of_alternating (alternating_iff.2 ⟨false, hfilter.symm ▸ halt⟩) hrst
    (by rw [hfilter, hlength, hentries]) s
  refine ⟨hcount, hgate, fun hlast => ?_, hslot⟩
  obtain ⟨x, later, rfl⟩ := List.exists_cons_of_length_eq_add_one hentries
  have hopened : (driveEdge s).slot = 0 := by
    rw [driveEdge, drive_slot]
    simp [hlast]
  rw [edgePairs_cons, visited_cons, visited_cons, List.getElem?_cons_succ, List.getElem?_cons_zero, Option.map_some,
    result_adcStart, result_zcd]
  simp [evaluates, hopened]

/-! ### The edges of the ports -/

theorem filter_strobe (strobe : Bool) {i : Instr} (h : isEdge i = false) :
    (if strobe then [i] else []).filter isEdge = [] := by
  cases strobe <;> simp [h]

/-- Of the events of an instant without reset only the change of `zc` is an edge. -/
theorem filter_presented {e : Edge} {before : Bool} {now : Inputs} (hrst : now.rst = false) :
    (presented e before now).filter isEdge = zcEvents e before now := by
  have hzc : (zcEvents e before now).filter isEdge = zcEvents e before now := by
    unfold zcEvents
    split_ifs <;> rfl
  simp only [presented, List.filter_append, hrst, hzc]
  rw [filter_strobe now.tick1ms rfl, filter_strobe now.refresh rfl, filter_strobe now.hWe rfl,
    filter_strobe now.hRe rfl]
  simp

/-- Without a reset every allowed order of an instant has the edges of the instant, in the one order there is. -/
theorem filter_of_serialization {e : Edge} {before : Bool} {now : Inputs} {order : List Instr}
    (hrst : now.rst = false) (h : Serialization (presented e before now) order) :
    order.filter isEdge = zcEvents e before now := by
  have hnone : Instr.rst ∉ presented e before now := by
    have hzc : Instr.rst ∉ zcEvents e before now := by
      unfold zcEvents
      split_ifs <;> simp
    simp [presented, hrst, hzc]
  rw [Serialization, if_neg hnone] at h
  have hperm := h.1.filter isEdge
  rw [filter_presented hrst] at hperm
  revert hperm
  unfold zcEvents
  split_ifs
  · exact fun hperm => List.perm_nil.1 hperm
  · exact fun hperm => List.perm_singleton.1 hperm
  · exact fun hperm => List.perm_singleton.1 hperm

/-- A change of `zc` is the edge that is due, and the other direction is due after it. -/
theorem alternatesFrom_zcEvents_append (e : Edge) (before : Bool) (now : Inputs) (l : List Instr) :
    AlternatesFrom (before != Edge.level e) (zcEvents e before now ++ l)
      ↔ AlternatesFrom (now.zc != Edge.level e) l := by
  by_cases hsame : now.zc = before
  · rw [zcEvents, if_pos hsame, hsame, List.nil_append]
  · rw [zcEvents, if_neg hsame, Bool.eq_not.2 hsame]
    cases before <;> cases e <;> simp [AlternatesFrom, Edge.level]

/-- The edges of every allowed order alternate, the first in the direction that the level of `zc` leaves. -/
theorem alternatesFrom_of_legalTrace {e : Edge} {before : Bool} {inputs : List Inputs} {tr : List Instr}
    (hrst : ∀ now ∈ inputs, now.rst = false) (h : LegalTrace (presentedAll e before inputs) tr) :
    AlternatesFrom (before != Edge.level e) (tr.filter isEdge) := by
  induction inputs generalizing before tr with
  | nil => cases h; trivial
  | cons now later ih =>
    cases h with
    | cons horder hlater =>
      rw [List.filter_append, filter_of_serialization (hrst now List.mem_cons_self) horder,
        alternatesFrom_zcEvents_append]
      exact ih (fun u hu => hrst u (List.mem_cons_of_mem _ hu)) hlater

/-- Settles O55. -/
theorem portEdgesAlternate : Obligations.PortEdgesAlternate := by
  unfold Obligations.PortEdgesAlternate
  exact fun e before inputs tr hrst h => alternating_iff.2 ⟨_, alternatesFrom_of_legalTrace hrst h⟩

end Sys2Proof.Proofs.Edges

/-! PROOFS. What the sequencer does not look at (spec/10_state.md sections 3, 6 and 8): the events to come and the
elements of the tick unit pass through every operation of the sequencer and of the host as they are, and four elements reach
nothing but a read of the clock. -/

namespace Sys2Proof.Proofs.Outside
open Sys2Proof.Machine Sys2Proof.Laws Sys2Proof.Proofs.Operations

/-- The state with other events to come and other elements of the tick unit. -/
def withOutside (tr : List Word) (clock : BitVec 32) (ms : Nat) (phase : Bool) (hold : Nat) (s : State) : State :=
  { s with trace := tr, msClock := clock, blinkMs := ms, blinkPhase := phase, holdPeriods := hold }

section
variable (tr : List Word) (clock : BitVec 32) (ms : Nat) (phase : Bool) (hold : Nat)

theorem controlLaw_withOutside (s : State) :
    controlLaw (withOutside tr clock ms phase hold s) = withOutside tr clock ms phase hold (controlLaw s) := by
  cases hpolicy : s.cfg.policy with
  | pid => rw [controlLaw_pid hpolicy, controlLaw_pid (by exact hpolicy)]; rfl
  | hyst => rw [controlLaw_hyst hpolicy, controlLaw_hyst (by exact hpolicy)]; rfl

theorem safety_withOutside (disc holder enableReq : Bool) (s : State) :
    safety disc holder enableReq (withOutside tr clock ms phase hold s)
      = withOutside tr clock ms phase hold (safety disc holder enableReq s) := by
  by_cases hforced : s.tipRemoved = true ∨ disc = true
  · rw [safety_forced hforced, safety_forced (by exact hforced)]; rfl
  · obtain ⟨htip, rfl⟩ : s.tipRemoved = false ∧ disc = false := by simpa using hforced
    rw [safety_free htip, safety_free (by exact htip)]; rfl

theorem evaluate_withOutside (sample : Nat) (adcOk disc holder : Bool) (s : State) :
    evaluate sample adcOk disc holder (withOutside tr clock ms phase hold s)
      = withOutside tr clock ms phase hold (evaluate sample adcOk disc holder s) := by
  by_cases hok : adcOk = true ∧ sample ≤ 3500
  · have hacquire : acquireCompleted sample (withOutside tr clock ms phase hold s)
      = ((acquireCompleted sample s).1, withOutside tr clock ms phase hold (acquireCompleted sample s).2) := rfl
    have hfilter (u : State) :
      outFilter (withOutside tr clock ms phase hold u) = withOutside tr clock ms phase hold (outFilter u) := rfl
    rw [evaluate_completed hok, evaluate_completed hok, hacquire, controlLaw_withOutside, hfilter, safety_withOutside]
  · rw [evaluate_failed hok, evaluate_failed hok]; rfl

theorem measurementEdge_withOutside (sample : Nat) (adcOk disc holder : Bool) (s : State) :
    measurementEdge sample adcOk disc holder (withOutside tr clock ms phase hold s)
      = withOutside tr clock ms phase hold (measurementEdge sample adcOk disc holder s) := by
  by_cases hslot : s.slot = 0
  · rw [measurementEdge_slot_zero hslot, measurementEdge_slot_zero (by exact hslot)]
    exact congrArg drive (evaluate_withOutside tr clock ms phase hold sample adcOk disc holder (startConversion s))
  · rw [measurementEdge_other_slot hslot, measurementEdge_other_slot (by exact hslot)]; rfl

end

/-! ### Events to come -/

/-- No operation looks at the events to come. -/
theorem result_withTrace (i : Instr) (tr : List Word) (s : State) :
    result i { s with trace := tr } = { result i s with trace := tr } := by
  cases i with
  | zcm sample adcOk disc holder =>
    have h := measurementEdge_withOutside tr s.msClock s.blinkMs s.blinkPhase s.holdPeriods sample adcOk disc holder s
    refine Eq.trans h ?_
    simp [withOutside]
  | tick =>
    by_cases hboundary : s.blinkMs + 1 = s.cfg.blinkPeriodMs
    · rw [result_tick, result_tick, tickOnce_boundary hboundary, tickOnce_boundary (by exact hboundary)]
    · rw [result_tick, result_tick, tickOnce_between hboundary, tickOnce_between (by exact hboundary)]
  | wrg reg data => cases reg <;> rfl
  | rds reg => cases reg <;> rfl
  | zcd | rfr | rst => rfl

/-- A step that finds the word of a well-formed operation executes it. -/
theorem step_of_encoded {i : Instr} (hi : i.WellFormed) (rest : List Word) (s : State) :
    step { s with trace := encode i :: rest } = .next { result i s with trace := rest } := by
  rw [step_of_ok rfl (Encoding.decodeOfEncode i hi), exec_eq_result]
  exact congrArg _ (result_withTrace i rest s)

/-- Settles O54: word by word, the operation in front commutes with the rest of the trace. -/
theorem traceRunIsOperationRun : Obligations.TraceRunIsOperationRun := by
  unfold Obligations.TraceRunIsOperationRun
  intro ops s hops
  rw [runOps_eq_runResult]
  induction ops generalizing s with
  | nil => rfl
  | cons i later ih =>
    obtain ⟨hi, hlater⟩ := List.forall_mem_cons.1 hops
    rw [List.length_cons, List.map_cons, run_succ (step_of_encoded hi _ s), runResult_cons, result_withTrace i []]
    exact ih (result i s) hlater

/-! ### The tick unit -/

/-- A tick changes the elements of the tick unit, to values that depend on nothing else, and the outputs. -/
theorem exists_tickOnce (s : State) :
    ∃ clock ms phase hold, tickOnce s = beginOp (withOutside s.trace clock ms phase hold s)
      ∧ ∀ t : State, SameTicker s t → t.holdPeriods = s.holdPeriods → t.config = s.config →
        tickOnce t = beginOp (withOutside t.trace clock ms phase hold t) := by
  by_cases hboundary : s.blinkMs + 1 = s.cfg.blinkPeriodMs
  · refine ⟨s.msClock + 1, 0, !s.blinkPhase, s.holdPeriods - 1, tickOnce_boundary hboundary, ?_⟩
    rintro t ⟨hclock, hms, hphase⟩ hhold hconfig
    rw [tickOnce_boundary (by rw [State.cfg, hconfig, hms]; exact hboundary), hclock, hphase, hhold]
    rfl
  · refine ⟨s.msClock + 1, s.blinkMs + 1, s.blinkPhase, s.holdPeriods, tickOnce_between hboundary, ?_⟩
    rintro t ⟨hclock, hms, hphase⟩ hhold hconfig
    rw [tickOnce_between (by rw [State.cfg, hconfig, hms]; exact hboundary), hclock, hms, ← hphase, ← hhold]
    rfl

/-- An operation of the sequencer or of the host passes the elements of the tick unit through, up to its outputs. -/
theorem result_withOutside {i : Instr} (hi : agentOf i = some .seq ∨ agentOf i = some .host) (tr : List Word)
    (clock : BitVec 32) (ms : Nat) (phase : Bool) (hold : Nat) (s : State) :
    withoutOutputs (result i (beginOp (withOutside tr clock ms phase hold s)))
      = withoutOutputs (withOutside tr clock ms phase hold (result i s)) := by
  cases i with
  | zcm sample adcOk disc holder =>
    exact congrArg withoutOutputs (measurementEdge_withOutside tr clock ms phase hold sample adcOk disc holder s)
  | wrg reg data => cases reg <;> rfl
  | zcd | rds => rfl
  | tick | rfr | rst => simp [agentOf] at hi

/-- Settles O53: the values a tick writes depend on nothing the other operation writes. -/
theorem tickCommutesWithSequencerAndHost : Obligations.TickCommutesWithSequencerAndHost := by
  unfold Obligations.TickCommutesWithSequencerAndHost
  intro i s hi
  refine ⟨_, _, runOps_eq_runResult _ s, runOps_eq_runResult _ s, ?_⟩
  have hrst : i ≠ .rst := by rintro rfl; simp [agentOf] at hi
  have hticker : agentOf i ≠ some .ticker := by obtain h | h := hi <;> simp [h]
  have hmode : agentOf i ≠ some .mode := by obtain h | h := hi <;> simp [h]
  obtain ⟨clock, ms, phase, hold, hs, ht⟩ := exists_tickOnce s
  have htick := ht (result i s) (sameTicker_result hticker hrst s) (result_holdPeriods hmode hticker hrst s)
    (result_config i s)
  rw [runResult_cons, runResult_cons, runResult_cons, runResult_cons, runResult_nil, runResult_nil, result_tick,
    result_tick, htick, hs, result_withOutside hi, result_trace]
  rfl

/-! ### Elements that nothing reads -/

/-- A part of an operation that answers alike, up to the unread elements, with and without them, does so for every two
states that differ in nothing else. -/
theorem respects_withoutUnread {part : State → State}
    (hpart : ∀ s, withoutUnread (part s) = withoutUnread (part (withoutUnread s))) {s s' : State}
    (h : withoutUnread s = withoutUnread s') : withoutUnread (part s) = withoutUnread (part s') := by
  rw [hpart s, h, ← hpart s']

theorem controlLaw_unread (s : State) :
    withoutUnread (controlLaw s) = withoutUnread (controlLaw (withoutUnread s)) := by
  cases hpolicy : s.cfg.policy with
  | pid => rw [controlLaw_pid hpolicy, controlLaw_pid (by exact hpolicy)]; rfl
  | hyst => rw [controlLaw_hyst hpolicy, controlLaw_hyst (by exact hpolicy)]; rfl

theorem safety_unread (disc holder enableReq : Bool) (s : State) :
    withoutUnread (safety disc holder enableReq s)
      = withoutUnread (safety disc holder enableReq (withoutUnread s)) := by
  by_cases hforced : s.tipRemoved = true ∨ disc = true
  · rw [safety_forced hforced, safety_forced (by exact hforced)]; rfl
  · obtain ⟨htip, rfl⟩ : s.tipRemoved = false ∧ disc = false := by simpa using hforced
    rw [safety_free htip, safety_free (by exact htip)]; rfl

theorem evaluate_unread (sample : Nat) (adcOk disc holder : Bool) (s : State) :
    withoutUnread (evaluate sample adcOk disc holder s)
      = withoutUnread (evaluate sample adcOk disc holder (withoutUnread s)) := by
  by_cases hok : adcOk = true ∧ sample ≤ 3500
  · have hacquired : withoutUnread (acquireCompleted sample s).2
      = withoutUnread (acquireCompleted sample (withoutUnread s)).2 := rfl
    have hcontrolled := respects_withoutUnread controlLaw_unread hacquired
    have hfiltered := respects_withoutUnread (part := outFilter) (fun _ => rfl) hcontrolled
    rw [evaluate_completed hok, evaluate_completed hok]
    exact respects_withoutUnread (safety_unread disc holder _) hfiltered
  · rw [evaluate_failed hok, evaluate_failed hok]; rfl

theorem measurementEdge_unread (sample : Nat) (adcOk disc holder : Bool) (s : State) :
    withoutUnread (measurementEdge sample adcOk disc holder s)
      = withoutUnread (measurementEdge sample adcOk disc holder (withoutUnread s)) := by
  by_cases hslot : s.slot = 0
  · rw [measurementEdge_slot_zero hslot, measurementEdge_slot_zero (by exact hslot)]
    refine respects_withoutUnread (part := drive) (fun _ => rfl) ?_
    exact respects_withoutUnread (evaluate_unread sample adcOk disc holder) rfl
  · rw [measurementEdge_other_slot hslot, measurementEdge_other_slot (by exact hslot)]; rfl

theorem tickOnce_unread (s : State) : withoutUnread (tickOnce s) = withoutUnread (tickOnce (withoutUnread s)) := by
  by_cases hboundary : s.blinkMs + 1 = s.cfg.blinkPeriodMs
  · rw [tickOnce_boundary hboundary, tickOnce_boundary (by exact hboundary)]; rfl
  · rw [tickOnce_between hboundary, tickOnce_between (by exact hboundary)]; rfl

theorem result_unread (i : Instr) (s : State) :
    withoutUnread (result i s) = withoutUnread (result i (withoutUnread s)) := by
  cases i with
  | zcm sample adcOk disc holder => exact measurementEdge_unread sample adcOk disc holder s
  | tick => exact tickOnce_unread s
  | wrg reg data => cases reg <;> rfl
  | zcd | rfr | rds | rst => rfl

/-- The outputs of a measurement edge hang on the slot alone. -/
theorem measurementEdge_out (sample : Nat) (adcOk disc holder : Bool) (s : State) :
    (measurementEdge sample adcOk disc holder s).out = if s.slot = 0 then { adcStart := true } else {} := by
  split
  · rw [measurementEdge_slot_zero ‹_›, drive_out, evaluate_out, startConversion_out]
  · rw [measurementEdge_other_slot ‹_›, drive_out, beginOp_out]

/-- The clock reaches no other output than a read of its halves. -/
theorem result_out_unread {i : Instr} (hlo : i ≠ .rds .msclkLo) (hhi : i ≠ .rds .msclkHi) (s : State) :
    (result i s).out = (result i (withoutUnread s)).out := by
  cases i with
  | zcm sample adcOk disc holder => rw [result_zcm, result_zcm, measurementEdge_out, measurementEdge_out]; rfl
  | tick => rw [result_tick, result_tick, tickOnce_out, tickOnce_out]
  | wrg reg data => cases reg <;> rfl
  | rds reg =>
    cases reg with
    | msclkLo => exact absurd rfl hlo
    | msclkHi => exact absurd rfl hhi
    | _ => rfl
  | zcd | rfr | rst => rfl

/-- Settles O52. -/
theorem unreadElements : Obligations.UnreadElements := by
  unfold Obligations.UnreadElements
  intro i s s' t t' hs ht ht'
  obtain rfl := exec_eq_next.1 ht
  obtain rfl := exec_eq_next.1 ht'
  refine ⟨respects_withoutUnread (result_unread i) hs, fun hlo hhi => ?_⟩
  rw [result_out_unread hlo hhi s, hs, ← result_out_unread hlo hhi s']

end Sys2Proof.Proofs.Outside

/-! PROOFS. The tick unit (spec/44_tick_host.md): one tick, any number of ticks, and what a hold and a torn read of the
clock make of them. -/

namespace Sys2Proof.Proofs.Ticks
open Sys2Proof.Machine Sys2Proof.Laws Sys2Proof.Proofs.ModeMachine Sys2Proof.Proofs.Operations

/-! ### One tick -/

theorem clock_add_one (clock : BitVec 32) : clock + 1 = BitVec.ofNat 32 (clock.toNat + 1) := by
  apply BitVec.eq_of_toNat_eq
  simp

/-- Settles O36. -/
theorem tickFullEffect : Obligations.TickFullEffect := by
  unfold Obligations.TickFullEffect
  intro s
  rw [← clock_add_one]
  exact ⟨fun h => by rw [exec_eq_result, result_tick, tickOnce_boundary h],
    fun h => by rw [exec_eq_result, result_tick, tickOnce_between h]⟩

/-! ### Any number of ticks -/

/-- What a number of ticks leaves (R212). -/
def ticked (n : Nat) (s : State) : State :=
  { s with
    out := if n = 0 then s.out else {}
    msClock := BitVec.ofNat 32 (s.msClock.toNat + n)
    blinkMs := (s.blinkMs + n) % s.cfg.blinkPeriodMs
    blinkPhase := s.blinkPhase ^^ decide ((s.blinkMs + n) / s.cfg.blinkPeriodMs % 2 = 1)
    holdPeriods := s.holdPeriods - (s.blinkMs + n) / s.cfg.blinkPeriodMs }

theorem ticked_zero {s : State} (h : s.blinkMs < s.cfg.blinkPeriodMs) : ticked 0 s = s := by
  simp [ticked, Nat.mod_eq_of_lt h, Nat.div_eq_of_lt h]

/-- A count that reaches the period goes on at 0 with one period more. -/
theorem div_mod_of_boundary {a period : Nat} (h : a % period + 1 = period) :
    (a + 1) / period = a / period + 1 ∧ (a + 1) % period = 0 := by
  have hsum : a + 1 = period * (a / period + 1) := by
    have := Nat.div_add_mod a period
    rw [Nat.mul_add, Nat.mul_one]
    omega
  rw [hsum]
  exact ⟨Nat.mul_div_cancel_left _ (by omega), Nat.mul_mod_right ..⟩

/-- A count below the period goes on in the same period. -/
theorem div_mod_of_between {a period : Nat} (hpos : 0 < period) (h : a % period + 1 ≠ period) :
    (a + 1) / period = a / period ∧ (a + 1) % period = a % period + 1 := by
  have hlt : a % period + 1 < period := by
    have := Nat.mod_lt a hpos
    omega
  have hsum : a + 1 = period * (a / period) + (a % period + 1) := by
    have := Nat.div_add_mod a period
    omega
  rw [hsum, Nat.mul_add_div hpos, Nat.div_eq_of_lt hlt, Nat.mul_add_mod, Nat.mod_eq_of_lt hlt]
  simp

theorem odd_succ (q : Nat) : decide ((q + 1) % 2 = 1) = !decide (q % 2 = 1) := by
  rw [← decide_not, decide_eq_decide]
  omega

theorem clock_ofNat_add_one (a : Nat) : BitVec.ofNat 32 a + 1 = BitVec.ofNat 32 (a + 1) :=
  (BitVec.ofNat_add a 1).symm

/-- One tick more. -/
theorem tickOnce_ticked {s : State} (h : s.blinkMs < s.cfg.blinkPeriodMs) (n : Nat) :
    tickOnce (ticked n s) = ticked (n + 1) s := by
  by_cases hboundary : (s.blinkMs + n) % s.cfg.blinkPeriodMs + 1 = s.cfg.blinkPeriodMs
  · obtain ⟨hdiv, hmod⟩ := div_mod_of_boundary hboundary
    rw [tickOnce_boundary (by exact hboundary)]
    simp only [ticked, ← Nat.add_assoc, hdiv, hmod, odd_succ, clock_ofNat_add_one, Bool.xor_not, Nat.sub_sub]
    rfl
  · obtain ⟨hdiv, hmod⟩ := div_mod_of_between (Nat.zero_lt_of_lt h) hboundary
    rw [tickOnce_between (by exact hboundary)]
    simp only [ticked, ← Nat.add_assoc, hdiv, hmod, clock_ofNat_add_one]
    rfl

theorem ticks_succ (n : Nat) : ticks (n + 1) = ticks n ++ [.tick] := List.replicate_succ'

theorem runResult_ticks {s : State} (h : s.blinkMs < s.cfg.blinkPeriodMs) (n : Nat) :
    runResult (ticks n) s = ticked n s := by
  induction n with
  | zero => exact (ticked_zero h).symm
  | succ n ih =>
    rw [ticks_succ, runResult_append, ih, runResult_cons, runResult_nil, result_tick, tickOnce_ticked h]

/-- Settles O37. -/
theorem manyTicks : Obligations.ManyTicks := by
  unfold Obligations.ManyTicks
  intro n s h
  rw [runOps_eq_runResult, runResult_ticks h, ticked]

/-! ### The hold -/

/-- Settles O38: of the H periods that the refresh started, as many are gone as boundaries were passed. -/
theorem holdLastsItsPeriods : Obligations.HoldLastsItsPeriods := by
  unfold Obligations.HoldLastsItsPeriods
  intro s enc holder disc n hblink hchanged
  refine ⟨_, runOps_eq_runResult _ s, ?_⟩
  have hstart : (refresh enc holder disc s).holdPeriods = s.cfg.blinkHoldPeriods := by
    rw [refresh_holdPeriods, if_neg hchanged]
  have hhold : (runResult (.rfr enc holder disc :: ticks n) s).holdPeriods
      = s.cfg.blinkHoldPeriods - (s.blinkMs + n) / s.cfg.blinkPeriodMs := by
    rw [runResult_cons, result_rfr, runResult_ticks (by exact hblink), ticked, hstart]
    rfl
  have hiff : recentlyChanged (runResult (.rfr enc holder disc :: ticks n) s).holdPeriods = true
      ↔ s.blinkMs + n < s.cfg.blinkHoldPeriods * s.cfg.blinkPeriodMs := by
    rw [recentlyChanged, decide_eq_true_iff, hhold, Nat.sub_pos_iff_lt,
      Nat.div_lt_iff_lt_mul (Nat.zero_lt_of_lt hblink)]
  refine ⟨hiff, fun hn => hiff.2 (by omega), fun hn => ?_⟩
  rw [← Bool.not_eq_true, hiff]
  omega

/-! ### The clock -/

/-- The clock counts ticks whatever the blink timer does. -/
theorem msClock_runResult_ticks (n : Nat) (s : State) :
    (runResult (ticks n) s).msClock.toNat = (s.msClock.toNat + n) % 2 ^ 32 := by
  induction n with
  | zero => exact (Nat.mod_eq_of_lt s.msClock.isLt).symm
  | succ n ih =>
    have hone : (1 : BitVec 32).toNat = 1 := rfl
    rw [ticks_succ, runResult_append, runResult_cons, runResult_nil, result_tick, tickOnce_msClock, BitVec.toNat_add,
      ih, hone]
    omega

theorem toNat_msclkHi (s : State) : (hostRead .msclkHi s).toNat = s.msClock.toNat / 2 ^ 16 := by
  have := s.msClock.isLt
  simp only [hostRead, BitVec.extractLsb'_toNat, Nat.shiftRight_eq_div_pow]
  omega

theorem toNat_msclkLo (s : State) : (hostRead .msclkLo s).toNat = s.msClock.toNat % 2 ^ 16 := by
  simp only [hostRead, BitVec.extractLsb'_toNat, Nat.shiftRight_zero]

/-- Settles O39: with the two high readings equal the clock did not wrap, since it then stands a turn of the low half
behind, so its high half stood still at the middle read too. -/
theorem clockReadTwice : Obligations.ClockReadTwice := by
  unfold Obligations.ClockReadTwice
  intro s t u a b hab ht hu hhigh
  obtain rfl : runResult (ticks a) s = t := by simpa [runOps_eq_runResult] using ht
  obtain rfl : runResult (ticks b) (runResult (ticks a) s) = u := by simpa [runOps_eq_runResult] using hu
  have hmiddle := msClock_runResult_ticks a s
  have hlast := msClock_runResult_ticks b (runResult (ticks a) s)
  have hstart := s.msClock.isLt
  have hhigh := congrArg BitVec.toNat hhigh
  rw [toNat_msclkHi, toNat_msclkHi] at hhigh
  rw [toNat_msclkHi, toNat_msclkLo]
  omega

end Sys2Proof.Proofs.Ticks

/-! PROOFS. The setpoint mapper (spec/43_encoder_mode.md) and the settling of the output filter
(spec/42_control_law.md section 4). -/

namespace Sys2Proof.Proofs.Settling
open Sys2Proof.Machine Sys2Proof.Laws Sys2Proof.Proofs.ModeMachine

/-! ### The setpoint mapper -/

/-- Settles O34: the range of the counter decides whether it is saturated. -/
theorem encoderSaturationAndWriteBack : Obligations.EncoderSaturationAndWriteBack := by
  unfold Obligations.EncoderSaturationAndWriteBack
  intro s enc holder disc
  refine ⟨_, exec_rfr enc holder disc s, rawSetpoint_le enc, ?above, ?below, ?inside⟩
  all_goals simp only [refresh_backupSetpoint, outputPorts, refresh_out, encoderWriteBack_eq, rawSetpoint_eq]
  case above =>
    intro h
    have hsat : saturateEncoder enc = 4500 := by rw [saturateEncoder_eq]; omega
    rw [hsat, if_neg (by omega)]
    exact ⟨rfl, rfl⟩
  case below =>
    intro h
    have hsat : saturateEncoder enc = 0 := by rw [saturateEncoder_eq]; omega
    rw [hsat, if_neg (by omega)]
    exact ⟨rfl, rfl⟩
  case inside =>
    intro hlo hhi
    have hsat : saturateEncoder enc = enc := by rw [saturateEncoder_eq]; omega
    rw [hsat, if_pos rfl]
    exact ⟨rfl, by omega, by omega⟩

/-- Settles O35. -/
theorem setpointProperties : Obligations.SetpointProperties := by
  unfold Obligations.SetpointProperties
  intro s enc holder disc
  refine ⟨_, exec_rfr enc holder disc s, ?holder, ?order, rawSetpoint_le enc, ?scenario⟩
  case holder =>
    rintro rfl
    rfl
  case order =>
    rw [refresh_setpoint, refresh_backupSetpoint, reducedSetpoint_eq]
    split
    · exact min_le_left ..
    · exact le_rfl
  case scenario =>
    rintro rfl rfl htip rfl
    have hmode : (refresh 4000 false false s).modeState = .active := by
      rw [refresh_modeState, htip, nextMode_active]
    refine ⟨hmode, rfl, ?_⟩
    rw [refresh_dispSetpoint, hmode]
    rfl

/-! ### The output filter for a held duty -/

/-- From the duty or above it the distance is halved, in tens. -/
theorem filterDuty_above (a k : Nat) : filterDuty (10 * a) (10 * (a + k)) = 10 * (a + k / 2) := by
  rw [filterDuty_eq]
  omega

/-- From below the duty the distance to the step before it is halved, in tens. -/
theorem filterDuty_below {a k : Nat} (h : k ≤ a) : filterDuty (10 * (a + 1)) (10 * (a - k)) = 10 * (a - k / 2) := by
  rw [filterDuty_eq]
  omega

theorem iterate_filterDuty_above (a k n : Nat) :
    (filterDuty (10 * a))^[n] (10 * (a + k)) = 10 * (a + k / 2 ^ n) := by
  induction n with
  | zero => simp
  | succ n ih => rw [Function.iterate_succ_apply', ih, filterDuty_above, Nat.div_div_eq_div_mul, ← Nat.pow_succ]

theorem iterate_filterDuty_below {a k : Nat} (h : k ≤ a) (n : Nat) :
    (filterDuty (10 * (a + 1)))^[n] (10 * (a - k)) = 10 * (a - k / 2 ^ n) := by
  induction n with
  | zero => simp
  | succ n ih =>
    rw [Function.iterate_succ_apply', ih, filterDuty_below ((Nat.div_le_self ..).trans h), Nat.div_div_eq_div_mul,
      ← Nat.pow_succ]

/-- Four halvings are enough for a distance of at most ten steps. -/
theorem halved_out {k n : Nat} (hk : k ≤ 10) (hn : 4 ≤ n) : k / 2 ^ n = 0 := by
  have hpow : 2 ^ 4 ≤ 2 ^ n := Nat.pow_le_pow_right (by decide) hn
  exact Nat.div_eq_of_lt (by omega)

/-- Settles O22: the distance, to the duty or to the step below it, is halved at each step. -/
theorem outputFilterSettles : Obligations.OutputFilterSettles := by
  unfold Obligations.OutputFilterSettles
  rintro duty start ⟨⟨a, rfl⟩, hduty⟩ ⟨⟨b, rfl⟩, hstart⟩ n hn
  split
  case isTrue h =>
    obtain ⟨c, rfl⟩ : ∃ c, a = c + 1 := Nat.exists_eq_add_of_le' (by omega)
    obtain ⟨k, hk, rfl⟩ : ∃ k, k ≤ c ∧ b = c - k := ⟨c - b, by omega, by omega⟩
    rw [iterate_filterDuty_below hk, halved_out (by omega) hn]
    omega
  case isFalse h =>
    obtain ⟨k, rfl⟩ : ∃ k, b = a + k := Nat.exists_eq_add_of_le (by omega)
    rw [iterate_filterDuty_above, halved_out (by omega) hn, Nat.add_zero]

end Sys2Proof.Proofs.Settling

/-! PROOFS. The invariant (spec/10_state.md section 8): it holds after reset, every operation keeps it, and it gives the
safe state. -/

namespace Sys2Proof.Proofs.Invariant
open Sys2Proof.Machine Sys2Proof.Laws Sys2Proof.Proofs.ControlLaw Sys2Proof.Proofs.ModeMachine
open Sys2Proof.Proofs.Operations Sys2Proof.Proofs.Evaluation

/-! ### At reset, and what it gives -/

/-- Settles O48: each clause on the reset values, the blink timer because an admissible period is positive. -/
theorem invariantAtReset : Obligations.InvariantAtReset := by
  unfold Obligations.InvariantAtReset
  intro c tr
  have hblink : 0 < c.cfg.blinkPeriodMs := c.admissible.blinkPeriod_pos
  constructor <;> simp [State.reset, DutyLegal, State.cfg, hblink, Mode.isFault]

/-- Settles O50: each letter of R55 by the clauses it rests on. -/
theorem invariantGivesSafeState : Obligations.InvariantGivesSafeState := by
  unfold Obligations.InvariantGivesSafeState
  intro s h
  refine {
    a := h.integral
    b := ⟨h.duty, h.dutyFiltered⟩
    c := Int.emod_eq_zero_of_dvd h.filtered
    e := ?e
    f := ?f
    g := ?g
    h := ?h }
  case e =>
    intro hslot
    rw [h.pin, hslot, driveLevel_slot_zero]
  case f =>
    intro hpin
    obtain ⟨henabled, -, -⟩ := driveLevel_eq_true.1 (h.pin ▸ hpin)
    obtain ⟨htip, hdisc, -, -⟩ := h.enabled henabled
    exact ⟨henabled, htip, hdisc⟩
  case g =>
    intro hwarmup
    rw [← Bool.not_eq_true]
    intro henabled
    obtain ⟨-, -, -, hwarm⟩ := h.enabled henabled
    rw [hwarm] at hwarmup
    exact absurd hwarmup (by decide)
  case h =>
    have hbackup := h.backup
    obtain hsame | hcapped := h.setpoint <;> omega

theorem dutyLegal_zero : DutyLegal 0 := ⟨dvd_zero 10, by decide⟩

/-! ### The operations outside an evaluation -/

section
variable {s : State}

theorem inv_withTrace (h : Inv s) (tr : List Word) : Inv { s with trace := tr } := { h with }

theorem inv_resetAll (s : State) : Inv (resetAll s) := invariantAtReset s.config s.trace

theorem inv_hostWrite (h : Inv s) (reg : HostReg) (data : Half) : Inv (hostWrite reg data (beginOp s)) := by
  cases reg <;> exact { h with }

theorem inv_driveEdge (h : Inv s) : Inv (driveEdge s) := { h with pin := rfl }

theorem inv_tickOnce (h : Inv s) : Inv (tickOnce s) := by
  by_cases hboundary : s.blinkMs + 1 = s.cfg.blinkPeriodMs
  · rw [tickOnce_boundary hboundary]
    exact { h with
      hold := (Nat.sub_le ..).trans h.hold
      blink := Nat.zero_lt_of_lt h.blink }
  · rw [tickOnce_between hboundary]
    exact { h with blink := Nat.lt_of_le_of_ne h.blink hboundary }

theorem nextMode_eq_active {tip disc holder : Bool} (h : nextMode tip disc holder = .active) : holder = false := by
  revert tip disc holder
  decide

theorem nextMode_eq_holderSleep {tip disc holder : Bool} (h : nextMode tip disc holder = .holderSleep) :
    holder = true := by
  revert tip disc holder
  decide

theorem inv_refresh (h : Inv s) (enc : Int) (holder disc : Bool) : Inv (refresh enc holder disc s) where
  integral := h.integral
  duty := h.duty
  dutyFiltered := h.dutyFiltered
  dispDuty := by
    rw [refresh_dispDuty]
    split
    · exact dutyLegal_zero
    · exact h.dutyFiltered
  filtered := h.filtered
  dispTemp := h.filtered
  pin := h.pin
  enabled := h.enabled
  forced := h.forced
  exclusive := h.exclusive
  setpoint := by
    cases holder with
    | false => exact .inl rfl
    | true => exact .inr rfl
  backup := rawSetpoint_le enc
  dispSetpoint := by
    have hraw := rawSetpoint_le enc
    rw [refresh_dispSetpoint, reducedSetpoint_eq]
    split <;> omega
  hold := by
    rw [refresh_holdPeriods]
    split
    · exact h.hold
    · exact le_rfl
  blink := h.blink
  error2 := h.error2
  active := by
    intro hmode
    obtain rfl := nextMode_eq_active hmode
    rfl
  holderSleep := by
    intro hmode
    obtain rfl := nextMode_eq_holderSleep hmode
    rfl
  faultMode := by
    intro hmode
    rw [refresh_dispDuty, if_pos (isFault_eq_true.1 hmode)]
  pidPolicy := h.pidPolicy
  hystPolicy := h.hystPolicy
  range := fun hidentity => ⟨(h.range hidentity).1, (h.range hidentity).1⟩

theorem inv_measurementEdge_other (h : Inv s) (hslot : s.slot ≠ 0) (sample : Nat) (adcOk disc holder : Bool) :
    Inv (measurementEdge sample adcOk disc holder s) := by
  rw [measurementEdge_other_slot hslot]
  exact { h with pin := rfl }

/-! ### An evaluation -/

theorem inv_evaluation_failed (h : Inv s) (hslot : s.slot = 0) {sample : Nat} {adcOk : Bool}
    (hfailed : ¬ (adcOk = true ∧ sample ≤ 3500)) (disc holder : Bool) :
    Inv (measurementEdge sample adcOk disc holder s) := by
  rw [measurementEdge_failed hslot hfailed]
  exact { h with
    duty := dutyLegal_zero
    dutyFiltered := dutyLegal_zero
    pin := (driveLevel_disabled _ _).symm
    enabled := fun henabled => nomatch henabled
    forced := fun _ => ⟨rfl, rfl⟩
    exclusive := fun hboth => nomatch hboth.2
    hystPolicy := fun hpolicy => by
      obtain ⟨h0, h1, hintegral, hderivative, -⟩ := h.hystPolicy hpolicy
      exact ⟨h0, h1, hintegral, hderivative, .inl rfl⟩ }

/-- With exact arithmetic the filter of R134 stays inside the 16-bit range (R10, R31). -/
theorem round5_filter_range {temperature : Rat} {previous : Int} (ht : |temperature| < 32768)
    (hp : -32765 ≤ previous ∧ previous ≤ 32765) :
    -32765 ≤ round5 (3 / 5 * temperature + (1 - 3 / 5) * previous)
      ∧ round5 (3 / 5 * temperature + (1 - 3 / 5) * previous) ≤ 32765 := by
  obtain ⟨hlo, hhi⟩ := round5_error (3 / 5 * temperature + (1 - 3 / 5) * previous)
  obtain ⟨m, hm⟩ := round5_dvd (3 / 5 * temperature + (1 - 3 / 5) * previous)
  obtain ⟨htlo, hthi⟩ := abs_lt.1 ht
  have hplo : (-32765 : Rat) ≤ previous := by exact_mod_cast hp.1
  have hphi : (previous : Rat) ≤ 32765 := by exact_mod_cast hp.2
  have hupper : (round5 (3 / 5 * temperature + (1 - 3 / 5) * previous) : Rat) < 32770 := by linarith
  have hlower : (-32770 : Rat) < round5 (3 / 5 * temperature + (1 - 3 / 5) * previous) := by linarith
  have hupper : round5 (3 / 5 * temperature + (1 - 3 / 5) * previous) < 32770 := by exact_mod_cast hupper
  have hlower : -32770 < round5 (3 / 5 * temperature + (1 - 3 / 5) * previous) := by exact_mod_cast hlower
  omega

/-- With exact arithmetic an accepted sample converts as R10 has it. -/
theorem sampleTemperature_of_identity {c : Cfg} (h : c.rounding = .identity) (sample : Nat) :
    sampleTemperature c sample = c.exactTemperature sample :=
  rnd_of_identity h _

/-- R28, R158: an evaluation writes the memory of its own policy only. -/
theorem controlLaw_otherPolicy (s : State) :
    (s.cfg.policy = .pid → (controlLaw s).hystOn = s.hystOn)
      ∧ (s.cfg.policy = .hyst → (controlLaw s).error0 = s.error0 ∧ (controlLaw s).error1 = s.error1
        ∧ (controlLaw s).integral = s.integral ∧ (controlLaw s).derivative = s.derivative
        ∧ ((controlLaw s).outputDuty = 0 ∨ (controlLaw s).outputDuty = 100)) := by
  refine ⟨fun hpolicy => by rw [controlLaw_pid hpolicy, controlPid_hystOn], fun hpolicy => ?_⟩
  rw [controlLaw_hyst hpolicy, controlHyst_outputDuty]
  refine ⟨rfl, rfl, rfl, rfl, ?_⟩
  split
  · exact .inr rfl
  · exact .inl rfl

/-- R117: what stands beside an enabled output after an evaluation. -/
theorem evaluate_enabled {sample : Nat} {adcOk disc holder : Bool}
    (henabled : (evaluate sample adcOk disc holder s).outputEnabled = true) :
    (evaluate sample adcOk disc holder s).tipRemoved = false
      ∧ (evaluate sample adcOk disc holder s).ironDisconnected = false
      ∧ (evaluate sample adcOk disc holder s).runaway = false ∧ (evaluate sample adcOk disc holder s).warmup = 3 := by
  obtain ⟨hok, rfl, hrunaway, hwarm⟩ := (evaluate_outputEnabled_iff ..).1 henabled
  obtain ⟨rfl, hsample⟩ := hok
  have hcounter : s.warmup = 3 := Fin.ext hwarm
  refine ⟨by simp [hsample], evaluate_ironDisconnected .., hrunaway, ?_⟩
  rw [evaluate_warmup, acquire_completed ⟨rfl, hsample⟩, acquireCompleted_warmup, hcounter]
  rfl

/-- With exact arithmetic a completed acquisition stays inside the 16-bit range. -/
theorem acquireCompleted_range (hidentity : s.cfg.rounding = .identity)
    (hfiltered : -32765 ≤ s.filteredTemperature ∧ s.filteredTemperature ≤ 32765) {sample : Nat}
    (hsample : sample ≤ 3500) :
    -32765 ≤ (acquireCompleted sample s).2.filteredTemperature
      ∧ (acquireCompleted sample s).2.filteredTemperature ≤ 32765 := by
  rw [acquireCompleted_filteredTemperature, filterValue_eq, rnd_of_identity hidentity,
    sampleTemperature_of_identity hidentity]
  exact round5_filter_range (s.config.admissible.temperature_lt sample hsample) hfiltered

theorem inv_evaluation_completed (h : Inv s) (hslot : s.slot = 0) {sample : Nat} (hsample : sample ≤ 3500)
    (disc holder : Bool) : Inv (measurementEdge sample true disc holder s) := by
  have hintegral := fun hrnd => (exec_keeps_integralInRange _ s _ ⟨hrnd, h.integral hrnd⟩
    (exec_eq_result (.zcm sample true disc holder) s)).2
  have henabled := evaluate_enabled (s := startConversion s) (sample := sample) (adcOk := true) (disc := disc)
    (holder := holder)
  have hrange := fun hidentity =>
    acquireCompleted_range (s := startConversion s) hidentity (h.range hidentity).1 hsample
  rw [result_zcm, measurementEdge_slot_zero hslot] at hintegral
  rw [measurementEdge_slot_zero hslot]
  rw [evaluate_completed ⟨rfl, hsample⟩] at henabled hintegral ⊢
  obtain ⟨hpid, hhyst⟩ := controlLaw_otherPolicy (acquireCompleted sample (startConversion s)).2
  have hduty := controlLaw_duty_legal (acquireCompleted sample (startConversion s)).2
  exact {
    integral := by simpa [State.cfg] using hintegral
    duty := by
      rw [drive_outputDuty, safety_outputDuty]
      split
      · exact dutyLegal_zero
      · exact hduty
    dutyFiltered := by
      rw [drive_outputDutyFiltered, safety_outputDutyFiltered]
      split
      · exact dutyLegal_zero
      · exact filterDuty_legal hduty.2 (by simpa using h.dutyFiltered.2)
    dispDuty := by simpa using h.dispDuty
    filtered := by simpa using round5_dvd _
    dispTemp := by simpa using h.dispTemp
    pin := by simp
    enabled := henabled
    forced := by
      intro hforced
      simp at hforced
      simp [hforced]
    exclusive := by simp
    setpoint := by simpa using h.setpoint
    backup := by simpa using h.backup
    dispSetpoint := by simpa using h.dispSetpoint
    hold := by simpa [State.cfg] using h.hold
    blink := by simpa [State.cfg] using h.blink
    error2 := by simpa using h.error2
    active := by simpa using h.active
    holderSleep := by simpa using h.holderSleep
    faultMode := by simpa using h.faultMode
    pidPolicy := by
      intro hpolicy
      have hpolicy : s.cfg.policy = .pid := by simpa [State.cfg] using hpolicy
      have hheld := hpid hpolicy
      simpa using hheld.trans (h.pidPolicy hpolicy)
    hystPolicy := by
      intro hpolicy
      have hpolicy : s.cfg.policy = .hyst := by simpa [State.cfg] using hpolicy
      obtain ⟨h0, h1, hi, hd, -⟩ := h.hystPolicy hpolicy
      obtain ⟨e0, e1, ei, ed, hends⟩ := hhyst hpolicy
      simp only [drive_error0, drive_error1, drive_integral, drive_derivative, drive_outputDuty, safety_error0,
        safety_error1, safety_integral, safety_derivative, safety_outputDuty, outFilter_error0, outFilter_error1,
        outFilter_integral, outFilter_derivative, outFilter_outputDuty]
      refine ⟨e0.trans h0, e1.trans h1, ei.trans hi, ed.trans hd, ?_⟩
      split
      · exact .inl rfl
      · exact hends
    range := by
      intro hidentity
      have hidentity : s.cfg.rounding = .identity := by simpa [State.cfg] using hidentity
      refine ⟨?_, by simpa using (h.range hidentity).2⟩
      rw [drive_filteredTemperature, safety_filteredTemperature, outFilter_filteredTemperature,
        controlLaw_filteredTemperature]
      exact hrange hidentity }

end

/-! ### The step -/

theorem inv_result (i : Instr) (s : State) (h : Inv s) : Inv (result i s) := by
  cases i with
  | zcm sample adcOk disc holder =>
    by_cases hslot : s.slot = 0
    · by_cases hok : adcOk = true ∧ sample ≤ 3500
      · obtain ⟨rfl, hsample⟩ := hok
        exact inv_evaluation_completed h hslot hsample disc holder
      · exact inv_evaluation_failed h hslot hok disc holder
    · exact inv_measurementEdge_other h hslot sample adcOk disc holder
  | zcd => exact inv_driveEdge h
  | tick => exact inv_tickOnce h
  | rfr enc holder disc => exact inv_refresh h enc holder disc
  | wrg reg data => exact inv_hostWrite h reg data
  | rds reg => exact { h with }
  | rst => exact inv_resetAll s

/-- Settles O49: an idle step changes nothing, and every operation keeps the invariant. -/
theorem stepKeepsInvariant : Obligations.StepKeepsInvariant := by
  unfold Obligations.StepKeepsInvariant
  exact fun s t => step_keeps (fun u tr hu => inv_withTrace hu tr) inv_result

end Sys2Proof.Proofs.Invariant

/-! PROOFS. Runs from reset (spec/70_reset_and_hazards.md R262): what has to happen before the heater is first on. -/

namespace Sys2Proof.Proofs.Runs
open Sys2Proof.Machine Sys2Proof.Laws Sys2Proof.Proofs.Operations Sys2Proof.Proofs.Evaluation
open Sys2Proof.Proofs.Invariant

/-! ### Runs -/

theorem run_zero {s t : State} (h : Host.Core.run Sys2Proof.core 0 s = .next t) : t = s :=
  (Host.Outcome.next.inj h).symm

/-- A longer run of any machine begins with a step. -/
theorem core_exists_step (M : Host.Core) {n : Nat} {s t : M.State} (h : M.run (n + 1) s = .next t) :
    ∃ u, M.step s = .next u ∧ M.run n u = .next t := by
  rw [Host.Core.run] at h
  split at h
  case h_1 u hu => exact ⟨u, hu, h⟩
  case h_2 => cases h
  case h_3 => cases h

theorem exists_step_of_run {n : Nat} {s t : State} (h : Host.Core.run Sys2Proof.core (n + 1) s = .next t) :
    ∃ u, step s = .next u ∧ Host.Core.run Sys2Proof.core n u = .next t :=
  core_exists_step Sys2Proof.core h

/-- A property of the first state that every step of the run keeps holds of the last. -/
theorem run_induction {P : State → Prop} {n : Nat} {s t : State} (hs : P s)
    (hstep : ∀ k u v, k < n → Host.Core.run Sys2Proof.core k s = .next u → P u → step u = .next v → P v)
    (h : Host.Core.run Sys2Proof.core n s = .next t) : P t := by
  induction n generalizing s with
  | zero => exact run_zero h ▸ hs
  | succ n ih =>
    obtain ⟨u, hu, h⟩ := exists_step_of_run h
    refine ih (hstep 0 s u (Nat.succ_pos n) rfl hs hu) (fun k v w hk hv => ?_) h
    exact hstep (k + 1) v w (Nat.succ_lt_succ hk) ((run_succ hu k).trans hv)

/-! ### What an operation does to the warm-up, the enable and the pin -/

/-- Outside an evaluation an operation is a reset, or it keeps warm-up, enable and temperature and turns the pin on only
with the output enabled. -/
theorem result_of_not_evaluates {i : Instr} {s : State} (h : evaluates i s = false) :
    i = .rst ∨ ((result i s).warmup = s.warmup ∧ (result i s).outputEnabled = s.outputEnabled
      ∧ (result i s).filteredTemperature = s.filteredTemperature
      ∧ ((result i s).pin = true → s.pin = true ∨ s.outputEnabled = true)) := by
  cases i with
  | rst => exact .inl rfl
  | zcm sample adcOk disc holder =>
    have hslot : s.slot ≠ 0 := by simpa [evaluates] using h
    rw [result_zcm, measurementEdge_other_slot hslot]
    exact .inr ⟨rfl, rfl, rfl, fun hpin => .inr (driveLevel_eq_true.1 hpin).1⟩
  | zcd => exact .inr ⟨rfl, rfl, rfl, fun hpin => .inr (driveLevel_eq_true.1 hpin).1⟩
  | tick =>
    exact .inr ⟨tickOnce_warmup s, tickOnce_outputEnabled s, tickOnce_filteredTemperature s,
      fun hpin => .inl (tickOnce_pin s ▸ hpin)⟩
  | wrg reg data =>
    exact .inr ⟨hostWrite_warmup .., hostWrite_outputEnabled .., hostWrite_filteredTemperature ..,
      fun hpin => .inl (hostWrite_pin reg data (beginOp s) ▸ hpin)⟩
  | rfr | rds => exact .inr ⟨rfl, rfl, rfl, .inl⟩

/-- What an evaluation leaves in the same elements, and whether it counts as an acquisition. -/
theorem result_of_evaluates {i : Instr} {s : State} (h : evaluates i s = true) :
    (result i s).pin = false ∧ (result i s).warmup.val ≤ s.warmup.val + (if acquires i s then 1 else 0)
      ∧ ((result i s).outputEnabled = true →
        acquires i s = true ∧ s.warmup.val = 3 ∧ 10 * (result i s).filteredTemperature ≤ 11 * (s.setpoint : Int)) := by
  obtain ⟨⟨sample, adcOk, disc, holder, rfl⟩, hslot⟩ := Edges.evaluates_eq_true.1 h
  obtain ⟨t, ht, henabled⟩ := outputEnabledExactlyWhen s sample adcOk disc holder hslot
  obtain rfl := exec_eq_next.1 ht
  refine ⟨(Edges.slot_pin_of_adcStart ((Edges.result_adcStart ..).trans h)).2, ?warmup, fun hon => ?enabled⟩
  case warmup =>
    rw [result_zcm, measurementEdge_slot_zero hslot, drive_warmup, evaluate_warmup]
    by_cases hok : adcOk = true ∧ sample ≤ 3500
    · have hcounts : acquires (.zcm sample adcOk disc holder) s = true := by simp [acquires, hslot, hok]
      rw [acquire_completed hok, acquireCompleted_warmup, nextWarmup_val, if_pos hcounts]
      exact min_le_left ..
    · rw [acquire_failed hok]
      exact Nat.le_add_right ..
  case enabled =>
    obtain ⟨rfl, hsample, -, hcold, hwarm⟩ := henabled.1 hon
    exact ⟨acquires_eq_true.2 ⟨sample, disc, holder, rfl, hslot, hsample⟩, hwarm, hcold⟩

/-! ### Warm-up -/

/-- R136 and R117 as a step of the count. -/
theorem warmupHistory_result {n : Nat} {s : State} (h : WarmupHistory n s) (i : Instr) :
    WarmupHistory (n + if acquires i s then 1 else 0) (result i s) := by
  cases heval : evaluates i s with
  | false =>
    obtain rfl | ⟨hwarmup, henabled, -, hpin⟩ := result_of_not_evaluates heval
    · exact ⟨Nat.zero_le _, fun hon => (Bool.false_ne_true hon).elim, fun hon => (Bool.false_ne_true hon).elim⟩
    · exact {
        warmup := by rw [hwarmup]; exact h.warmup.trans (Nat.le_add_right ..)
        enabled := by rw [henabled]; exact fun hon => (h.enabled hon).trans (Nat.le_add_right ..)
        pin := by rw [henabled]; exact fun hon => (hpin hon).elim h.pin id }
  | true =>
    obtain ⟨hpin, hwarmup, henabled⟩ := result_of_evaluates heval
    have hcount := h.warmup
    refine ⟨hwarmup.trans (by omega), fun hon => ?_, fun hon => absurd (hpin.symm.trans hon) (by decide)⟩
    obtain ⟨hcounts, hwarm, -⟩ := henabled hon
    rw [if_pos hcounts]
    omega

/-- Settles O56: an idle step counts nothing, another the acquisition of its operation. -/
theorem stepKeepsWarmupHistory : Obligations.StepKeepsWarmupHistory := by
  unfold Obligations.StepKeepsWarmupHistory
  intro n s t h hstep
  obtain ⟨htrace, rfl⟩ | ⟨w, rest, i, htrace, hw, rfl⟩ := step_eq_next hstep
  · rw [nextAcquires_nil htrace]
    exact h
  · have ht := warmupHistory_result (s := { s with trace := rest }) ⟨h.warmup, h.enabled, h.pin⟩ i
    rwa [acquires_withTrace, ← nextAcquires_cons htrace hw] at ht

theorem warmupHistory_run {m n : Nat} {s t : State} (hs : WarmupHistory m s)
    (h : Host.Core.run Sys2Proof.core n s = .next t) : WarmupHistory (m + acquisitions n s) t := by
  induction n generalizing m s with
  | zero => exact run_zero h ▸ hs
  | succ n ih =>
    obtain ⟨u, hu, h⟩ := exists_step_of_run h
    rw [acquisitions_succ hu, ← Nat.add_assoc]
    exact ih (stepKeepsWarmupHistory m s u hs hu) h

theorem warmupHistory_reset (c : Config) (tr : List Word) :
    WarmupHistory 0 { State.reset with config := c, trace := tr } :=
  ⟨le_rfl, fun hon => (Bool.false_ne_true hon).elim, fun hon => (Bool.false_ne_true hon).elim⟩

/-- Settles O30: the count from reset along the run. -/
theorem fourAcquisitionsBeforeFirstDrive : Obligations.FourAcquisitionsBeforeFirstDrive := by
  unfold Obligations.FourAcquisitionsBeforeFirstDrive
  intro c tr n t s h hpin
  have ht := warmupHistory_run (warmupHistory_reset c tr) h
  rw [Nat.zero_add] at ht
  exact ht.enabled (ht.pin hpin)

/-! ### Without a setpoint -/

/-- R134 under a warm calibration: a completed acquisition leaves a temperature above 0. -/
theorem filteredTemperature_pos {s : State} (hwarm : WarmCalibration s.cfg) (hs : 0 ≤ s.filteredTemperature)
    {sample : Nat} (hsample : sample ≤ 3500) : 0 < (acquireCompleted sample s).2.filteredTemperature := by
  have hconverted := hwarm.warm sample hsample
  have hprevious : (0 : Rat) ≤ s.filteredTemperature := by exact_mod_cast hs
  rw [acquireCompleted_filteredTemperature, filterValue_eq, rnd_of_identity hwarm.exact,
    sampleTemperature_of_identity hwarm.exact]
  exact round5_pos (by linarith)

/-- Under a warm calibration an evaluation without a setpoint leaves a temperature of at least 0 and no enable: what
completes is a runaway (R135). -/
theorem evaluation_withoutSetpoint {i : Instr} {s : State} (hwarm : WarmCalibration s.cfg) (hs : OffWithoutSetpoint s)
    (h : evaluates i s = true) :
    (result i s).outputEnabled = false ∧ 0 ≤ (result i s).filteredTemperature := by
  obtain ⟨-, -, henabled⟩ := result_of_evaluates h
  obtain ⟨⟨sample, adcOk, disc, holder, rfl⟩, hslot⟩ := Edges.evaluates_eq_true.1 h
  have hfiltered : (result (.zcm sample adcOk disc holder) s).filteredTemperature
      = (acquire sample adcOk (startConversion s)).2.filteredTemperature := by
    rw [result_zcm, measurementEdge_slot_zero hslot, drive_filteredTemperature, evaluate_filteredTemperature]
  by_cases hok : adcOk = true ∧ sample ≤ 3500
  · have hpos : 0 < (result (.zcm sample adcOk disc holder) s).filteredTemperature := by
      rw [hfiltered, acquire_completed hok]
      exact filteredTemperature_pos (s := startConversion s) hwarm hs.filtered hok.2
    refine ⟨?_, hpos.le⟩
    rw [← Bool.not_eq_true]
    intro hon
    obtain ⟨-, -, hcold⟩ := henabled hon
    rw [hs.setpoint] at hcold
    omega
  · refine ⟨?_, ?_⟩
    · rw [result_zcm, measurementEdge_failed hslot hok]
    · rw [hfiltered, acquire_failed hok]
      exact hs.filtered

/-- One operation from a heater that is off for want of a setpoint. -/
theorem result_offWithoutSetpoint {i : Instr} {s : State} (hwarm : WarmCalibration s.cfg) (hs : OffWithoutSetpoint s) :
    (result i s).pin = false ∧ ((result i s).setpoint = 0 → OffWithoutSetpoint (result i s)) := by
  cases heval : evaluates i s with
  | true =>
    have hpin := (result_of_evaluates heval).1
    obtain ⟨henabled, hfiltered⟩ := evaluation_withoutSetpoint hwarm hs heval
    exact ⟨hpin, fun hzero => ⟨hzero, henabled, hpin, hfiltered⟩⟩
  | false =>
    obtain rfl | ⟨-, henabled, hfiltered, hpin⟩ := result_of_not_evaluates heval
    · exact ⟨rfl, fun hzero => ⟨hzero, rfl, rfl, le_rfl⟩⟩
    · have hoff : (result i s).pin = false := by
        rw [← Bool.not_eq_true]
        intro hon
        obtain h | h := hpin hon
        · exact absurd (hs.pin.symm.trans h) (by decide)
        · exact absurd (hs.enabled.symm.trans h) (by decide)
      exact ⟨hoff, fun hzero => ⟨hzero, henabled.trans hs.enabled, hoff, hfiltered ▸ hs.filtered⟩⟩

/-- Settles O57. -/
theorem stepKeepsOffWithoutSetpoint : Obligations.StepKeepsOffWithoutSetpoint := by
  unfold Obligations.StepKeepsOffWithoutSetpoint
  intro s t hwarm hs h
  obtain ⟨-, rfl⟩ | ⟨w, rest, i, -, -, rfl⟩ := step_eq_next h
  · exact ⟨hs.pin, fun _ => hs⟩
  · exact result_offWithoutSetpoint hwarm ⟨hs.setpoint, hs.enabled, hs.pin, hs.filtered⟩

/-! ### The first drive -/

theorem inv_run {n : Nat} {c : Config} {tr : List Word} {t : State}
    (h : Host.Core.run Sys2Proof.core n ({ State.reset with config := c, trace := tr } : State) = .next t) : Inv t :=
  run_induction (invariantAtReset c tr) (fun _ u v _ _ => stepKeepsInvariant u v) h

/-- What the invariant says of a heater that is on. -/
theorem facts_of_pin {s : State} (h : Inv s) (hpin : s.pin = true) :
    s.outputEnabled = true ∧ 10 ≤ s.outputDuty ∧ 1 ≤ s.slot.val ∧ s.tipRemoved = false
      ∧ s.ironDisconnected = false ∧ s.runaway = false := by
  obtain ⟨henabled, hlo, hhi⟩ := driveLevel_eq_true.1 (h.pin ▸ hpin)
  obtain ⟨htip, hdisc, hrunaway, -⟩ := h.enabled henabled
  exact ⟨henabled, by omega, hlo, htip, hdisc, hrunaway⟩

/-- An enable that no setpoint accounts for: the temperature is not above 0. -/
def EnabledOnlyCold (s : State) : Prop := s.outputEnabled = true → s.filteredTemperature ≤ 0

/-- An operation in a state without a setpoint enables the output only where the temperature is not above 0 (R135). -/
theorem result_enabledOnlyCold {s : State} (hs : EnabledOnlyCold s) (hzero : s.setpoint = 0) (i : Instr) :
    EnabledOnlyCold (result i s) := by
  intro hon
  cases heval : evaluates i s with
  | true =>
    obtain ⟨-, -, hcold⟩ := (result_of_evaluates heval).2.2 hon
    rw [hzero] at hcold
    omega
  | false =>
    obtain rfl | ⟨-, henabled, hfiltered, -⟩ := result_of_not_evaluates heval
    · exact le_rfl
    · rw [hfiltered]
      exact hs (henabled ▸ hon)

/-- No state of a run before its last had a setpoint. -/
def NoSetpointBefore (n : Nat) (s : State) : Prop :=
  ∀ k u, k < n → Host.Core.run Sys2Proof.core k s = .next u → State.setpoint u = 0

theorem noSetpointBefore_of_not_exists {n : Nat} {s : State}
    (h : ¬ ∃ k u, k < n ∧ Host.Core.run Sys2Proof.core k s = .next u ∧ State.setpoint u ≠ 0) :
    NoSetpointBefore n s := by
  intro k u hk hu
  by_contra hne
  exact h ⟨k, u, hk, hu, hne⟩

theorem enabledOnlyCold_run {n : Nat} {s t : State} (hs : EnabledOnlyCold s) (hzero : NoSetpointBefore n s)
    (h : Host.Core.run Sys2Proof.core n s = .next t) : EnabledOnlyCold t := by
  refine run_induction hs (fun k u v hk hu hcold hstep => ?_) h
  obtain ⟨-, rfl⟩ | ⟨w, rest, i, -, -, rfl⟩ := step_eq_next hstep
  · exact hcold
  · exact result_enabledOnlyCold (s := { u with trace := rest }) hcold (hzero k u hk hu) i

/-- A heater off for want of a setpoint, unless one has just come, under a calibration. -/
def OffSoFar (c : Config) (s : State) : Prop :=
  s.config = c ∧ s.pin = false ∧ (s.setpoint = 0 → OffWithoutSetpoint s)

theorem offSoFar_run {n : Nat} {c : Config} {s t : State} (hwarm : WarmCalibration c.cfg) (hs : OffSoFar c s)
    (hzero : NoSetpointBefore n s) (h : Host.Core.run Sys2Proof.core n s = .next t) : OffSoFar c t := by
  refine run_induction hs (fun k u v hk hu hoff hstep => ?_) h
  obtain ⟨rfl, -, hoff⟩ := hoff
  exact ⟨(configurationNeverChanges u v hstep).1,
    stepKeepsOffWithoutSetpoint u v hwarm (hoff (hzero k u hk hu)) hstep⟩

/-- Settles O58: either some state of the run had a setpoint, or every step was one without. -/
theorem firstDriveAfterReset : Obligations.FirstDriveAfterReset := by
  unfold Obligations.FirstDriveAfterReset
  intro c tr n t s h hpin
  have hfacts := facts_of_pin (inv_run h) hpin
  refine ⟨hfacts, or_iff_not_imp_left.2 fun hnone => ?cold, fun hwarm => ?warm⟩
  case cold =>
    exact enabledOnlyCold_run (fun _ => le_rfl) (noSetpointBefore_of_not_exists hnone) h hfacts.1
  case warm =>
    by_contra hnone
    have hreset : OffSoFar c s := ⟨rfl, rfl, fun _ => ⟨rfl, rfl, rfl, le_rfl⟩⟩
    obtain ⟨-, hoff, -⟩ := offSoFar_run hwarm hreset (noSetpointBefore_of_not_exists hnone) h
    exact absurd (hoff.symm.trans hpin) (by decide)

end Sys2Proof.Proofs.Runs
